-- ==== Sys2Proof/Word.lean ====
section
/-! DEFINITION. The two word types of the core (00_scope.md R7: data width 8 bits, address width 16 bits). -/

namespace Sys2Proof

/-- A byte: register contents and bus data (00_scope.md R7). -/
abbrev Byte := BitVec 8

/-- A 16-bit address: the program counter and the bus address (00_scope.md R7). -/
abbrev Addr := BitVec 16

end Sys2Proof
end

