-- ==== Sys2Proof/Machine/Bits.lean ====
section
/-! DEFINITION. Bit-field, byte-order and extension helpers (00_scope.md R8, R9). -/

namespace Sys2Proof.Machine

/-- `hi ++ lo`: the 16-bit value of two bytes, high byte first (00_scope.md R9). -/
def assemble (hi lo : Byte) : Addr := hi ++ lo

/-- `a[15:8]`, the page of an address (00_scope.md R8). -/
def highByte (a : Addr) : Byte := a.extractLsb' 8 8

/-- `a[7:0]` (00_scope.md R8). -/
def lowByte (a : Addr) : Byte := a.extractLsb' 0 8

/-- `zext_16(b)` (00_scope.md R9): a zero-page address, or an index as a 16-bit value. -/
def zext16 (b : Byte) : Addr := b.setWidth 16

/-- `sext_16(b)` (00_scope.md R9): a branch offset (30_encoding.md R82). -/
def sext16 (b : Byte) : Addr := b.signExtend 16

/-- `b` as a byte with the one bit `k` (00_scope.md R9: true = 1, false = 0). -/
def bitAt (k : Nat) (b : Bool) : Byte := if b then 1#8 <<< k else 0#8

end Sys2Proof.Machine
end

