-- ==== Sys2Proof/Syntax.lean ====
section
/-! DEFINITION. The instruction set as syntax: the 256 rows of spec/opcode_table.json, in opcode order (30_encoding.md
R84), one constructor of `Instr` per row. Only rows of one mnemonic, one mode and one rule (the JAM opcodes, the NOP
aliases of one mode, the two ANC opcodes) share a constructor, which carries the opcode as an argument: Lean compiles no
inductive of 256 constructors (log entry 19). A constructor also carries the operand of its row, already assembled (R82): `imm` an immediate
byte, `zp` a zero-page byte, `rel` a signed offset byte, `addr` or `ptr` the 16-bit value `hi8 ++ lo8`. The
row 0xEB, a second SBC immediate, has the spec's name for it, USBC (R291). -/

namespace Sys2Proof

/-- The 76 mnemonics of the opcode map (30_encoding.md R85). -/
inductive Mnemonic where
  | adc | alr | anc | and | ane | arr | asl | bcc | bcs | beq | bit | bmi
  | bne | bpl | brk | bvc | bvs | clc | cld | cli | clv | cmp | cpx | cpy
  | dcp | dec | dex | dey | eor | inc | inx | iny | isc | jam | jmp | jsr
  | las | lax | lda | ldx | ldy | lsr | lxa | nop | ora | pha | php | pla
  | plp | rla | rol | ror | rra | rti | rts | sax | sbc | sbx | sec | sed
  | sei | sha | shx | shy | slo | sre | sta | stx | sty | tas | tax | tay
  | tsx | txa | txs | tya
  deriving DecidableEq, Repr

/-- The 12 JAM opcodes (30_encoding.md R86). -/
inductive JamOpcode where
  | op02 | op12 | op22 | op32 | op42 | op52 | op62 | op72 | op92 | opB2 | opD2 | opF2
  deriving DecidableEq, Repr

/-- The opcodes of the undocumented NOP in ZP mode (44_undocumented.md R292). -/
inductive NopZpOpcode where
  | op04 | op44 | op64
  deriving DecidableEq, Repr

/-- The two ANC opcodes (44_undocumented.md R279). -/
inductive AncOpcode where
  | op0B | op2B
  deriving DecidableEq, Repr

/-- The opcodes of the undocumented NOP in ZPX mode (44_undocumented.md R292). -/
inductive NopZpxOpcode where
  | op14 | op34 | op54 | op74 | opD4 | opF4
  deriving DecidableEq, Repr

/-- The opcodes of the undocumented NOP in IMP mode (44_undocumented.md R292). -/
inductive NopImpOpcode where
  | op1A | op3A | op5A | op7A | opDA | opFA
  deriving DecidableEq, Repr

/-- The opcodes of the undocumented NOP in ABX mode (44_undocumented.md R292). -/
inductive NopAbxOpcode where
  | op1C | op3C | op5C | op7C | opDC | opFC
  deriving DecidableEq, Repr

/-- The opcodes of the undocumented NOP in IMM mode (44_undocumented.md R292). -/
inductive NopImmOpcode where
  | op80 | op82 | op89 | opC2 | opE2
  deriving DecidableEq, Repr

/-- The nine addressing modes that produce an absolute address from operand bytes (40_execution.md R114-R119,
R121-R123), each with its operand (30_encoding.md R82). -/
inductive Place where
  /-- Zero-page (R114). -/
  | zp (b : Byte)
  /-- Zero-page,X (R115). -/
  | zpx (b : Byte)
  /-- Zero-page,Y (R116). -/
  | zpy (b : Byte)
  /-- Absolute (R117). -/
  | abs (a : Addr)
  /-- Absolute,X (R118). -/
  | abx (a : Addr)
  /-- Absolute,Y (R119). -/
  | aby (a : Addr)
  /-- Indirect (R121), used only by JMP. -/
  | ind (ptr : Addr)
  /-- Indexed-indirect (X) (R122). -/
  | izx (b : Byte)
  /-- Indirect-indexed (Y) (R123). -/
  | izy (b : Byte)
  deriving DecidableEq, Repr

/-- The 13 addressing modes by name (30_encoding.md R81). -/
inductive Mode where
  | imp | acc | imm | zp | zpx | zpy | abs | abx | aby | rel | ind | izx | izy
  deriving DecidableEq, Repr

/-- The operand of an instruction in one of the 13 addressing modes (30_encoding.md R81, R82). -/
inductive Operand where
  /-- Implied (R111). -/
  | imp
  /-- Accumulator (R112). -/
  | acc
  /-- Immediate (R113). -/
  | imm (b : Byte)
  /-- A mode that resolves to an absolute address. -/
  | mem (p : Place)
  /-- Relative (R120). -/
  | rel (b : Byte)
  deriving DecidableEq, Repr

/-- The rows of spec/opcode_table.json (30_encoding.md R84), in opcode order: one constructor per row, but rows of one
mnemonic, one mode and one rule share a constructor that carries their opcode. -/
inductive Instr where
  | brk
  | oraIzx (zp : Byte)
  | jam (code : JamOpcode)
  | sloIzx (zp : Byte)
  | nopZp (code : NopZpOpcode) (zp : Byte)
  | oraZp (zp : Byte)
  | aslZp (zp : Byte)
  | sloZp (zp : Byte)
  | php
  | oraImm (imm : Byte)
  | aslAcc
  | ancImm (code : AncOpcode) (imm : Byte)
  | nopAbs (addr : Addr)
  | oraAbs (addr : Addr)
  | aslAbs (addr : Addr)
  | sloAbs (addr : Addr)
  | bplRel (rel : Byte)
  | oraIzy (zp : Byte)
  | sloIzy (zp : Byte)
  | nopZpx (code : NopZpxOpcode) (zp : Byte)
  | oraZpx (zp : Byte)
  | aslZpx (zp : Byte)
  | sloZpx (zp : Byte)
  | clc
  | oraAby (addr : Addr)
  | nopImp (code : NopImpOpcode)
  | sloAby (addr : Addr)
  | nopAbx (code : NopAbxOpcode) (addr : Addr)
  | oraAbx (addr : Addr)
  | aslAbx (addr : Addr)
  | sloAbx (addr : Addr)
  | jsrAbs (addr : Addr)
  | andIzx (zp : Byte)
  | rlaIzx (zp : Byte)
  | bitZp (zp : Byte)
  | andZp (zp : Byte)
  | rolZp (zp : Byte)
  | rlaZp (zp : Byte)
  | plp
  | andImm (imm : Byte)
  | rolAcc
  | bitAbs (addr : Addr)
  | andAbs (addr : Addr)
  | rolAbs (addr : Addr)
  | rlaAbs (addr : Addr)
  | bmiRel (rel : Byte)
  | andIzy (zp : Byte)
  | rlaIzy (zp : Byte)
  | andZpx (zp : Byte)
  | rolZpx (zp : Byte)
  | rlaZpx (zp : Byte)
  | sec
  | andAby (addr : Addr)
  | rlaAby (addr : Addr)
  | andAbx (addr : Addr)
  | rolAbx (addr : Addr)
  | rlaAbx (addr : Addr)
  | rti
  | eorIzx (zp : Byte)
  | sreIzx (zp : Byte)
  | eorZp (zp : Byte)
  | lsrZp (zp : Byte)
  | sreZp (zp : Byte)
  | pha
  | eorImm (imm : Byte)
  | lsrAcc
  | alrImm (imm : Byte)
  | jmpAbs (addr : Addr)
  | eorAbs (addr : Addr)
  | lsrAbs (addr : Addr)
  | sreAbs (addr : Addr)
  | bvcRel (rel : Byte)
  | eorIzy (zp : Byte)
  | sreIzy (zp : Byte)
  | eorZpx (zp : Byte)
  | lsrZpx (zp : Byte)
  | sreZpx (zp : Byte)
  | cli
  | eorAby (addr : Addr)
  | sreAby (addr : Addr)
  | eorAbx (addr : Addr)
  | lsrAbx (addr : Addr)
  | sreAbx (addr : Addr)
  | rts
  | adcIzx (zp : Byte)
  | rraIzx (zp : Byte)
  | adcZp (zp : Byte)
  | rorZp (zp : Byte)
  | rraZp (zp : Byte)
  | pla
  | adcImm (imm : Byte)
  | rorAcc
  | arrImm (imm : Byte)
  | jmpInd (ptr : Addr)
  | adcAbs (addr : Addr)
  | rorAbs (addr : Addr)
  | rraAbs (addr : Addr)
  | bvsRel (rel : Byte)
  | adcIzy (zp : Byte)
  | rraIzy (zp : Byte)
  | adcZpx (zp : Byte)
  | rorZpx (zp : Byte)
  | rraZpx (zp : Byte)
  | sei
  | adcAby (addr : Addr)
  | rraAby (addr : Addr)
  | adcAbx (addr : Addr)
  | rorAbx (addr : Addr)
  | rraAbx (addr : Addr)
  | nopImm (code : NopImmOpcode) (imm : Byte)
  | staIzx (zp : Byte)
  | saxIzx (zp : Byte)
  | styZp (zp : Byte)
  | staZp (zp : Byte)
  | stxZp (zp : Byte)
  | saxZp (zp : Byte)
  | dey
  | txa
  | aneImm (imm : Byte)
  | styAbs (addr : Addr)
  | staAbs (addr : Addr)
  | stxAbs (addr : Addr)
  | saxAbs (addr : Addr)
  | bccRel (rel : Byte)
  | staIzy (zp : Byte)
  | shaIzy (zp : Byte)
  | styZpx (zp : Byte)
  | staZpx (zp : Byte)
  | stxZpy (zp : Byte)
  | saxZpy (zp : Byte)
  | tya
  | staAby (addr : Addr)
  | txs
  | tasAby (addr : Addr)
  | shyAbx (addr : Addr)
  | staAbx (addr : Addr)
  | shxAby (addr : Addr)
  | shaAby (addr : Addr)
  | ldyImm (imm : Byte)
  | ldaIzx (zp : Byte)
  | ldxImm (imm : Byte)
  | laxIzx (zp : Byte)
  | ldyZp (zp : Byte)
  | ldaZp (zp : Byte)
  | ldxZp (zp : Byte)
  | laxZp (zp : Byte)
  | tay
  | ldaImm (imm : Byte)
  | tax
  | lxaImm (imm : Byte)
  | ldyAbs (addr : Addr)
  | ldaAbs (addr : Addr)
  | ldxAbs (addr : Addr)
  | laxAbs (addr : Addr)
  | bcsRel (rel : Byte)
  | ldaIzy (zp : Byte)
  | laxIzy (zp : Byte)
  | ldyZpx (zp : Byte)
  | ldaZpx (zp : Byte)
  | ldxZpy (zp : Byte)
  | laxZpy (zp : Byte)
  | clv
  | ldaAby (addr : Addr)
  | tsx
  | lasAby (addr : Addr)
  | ldyAbx (addr : Addr)
  | ldaAbx (addr : Addr)
  | ldxAby (addr : Addr)
  | laxAby (addr : Addr)
  | cpyImm (imm : Byte)
  | cmpIzx (zp : Byte)
  | dcpIzx (zp : Byte)
  | cpyZp (zp : Byte)
  | cmpZp (zp : Byte)
  | decZp (zp : Byte)
  | dcpZp (zp : Byte)
  | iny
  | cmpImm (imm : Byte)
  | dex
  | sbxImm (imm : Byte)
  | cpyAbs (addr : Addr)
  | cmpAbs (addr : Addr)
  | decAbs (addr : Addr)
  | dcpAbs (addr : Addr)
  | bneRel (rel : Byte)
  | cmpIzy (zp : Byte)
  | dcpIzy (zp : Byte)
  | cmpZpx (zp : Byte)
  | decZpx (zp : Byte)
  | dcpZpx (zp : Byte)
  | cld
  | cmpAby (addr : Addr)
  | dcpAby (addr : Addr)
  | cmpAbx (addr : Addr)
  | decAbx (addr : Addr)
  | dcpAbx (addr : Addr)
  | cpxImm (imm : Byte)
  | sbcIzx (zp : Byte)
  | iscIzx (zp : Byte)
  | cpxZp (zp : Byte)
  | sbcZp (zp : Byte)
  | incZp (zp : Byte)
  | iscZp (zp : Byte)
  | inx
  | sbcImm (imm : Byte)
  | nop
  | usbcImm (imm : Byte)
  | cpxAbs (addr : Addr)
  | sbcAbs (addr : Addr)
  | incAbs (addr : Addr)
  | iscAbs (addr : Addr)
  | beqRel (rel : Byte)
  | sbcIzy (zp : Byte)
  | iscIzy (zp : Byte)
  | sbcZpx (zp : Byte)
  | incZpx (zp : Byte)
  | iscZpx (zp : Byte)
  | sed
  | sbcAby (addr : Addr)
  | iscAby (addr : Addr)
  | sbcAbx (addr : Addr)
  | incAbx (addr : Addr)
  | iscAbx (addr : Addr)
  deriving DecidableEq, Repr

end Sys2Proof
end

