-- ==== Sys2Proof/Decode.lean ====
section
/-! DEFINITION. The opcode map and the decoder (30_encoding.md R80-R88; 40_execution.md R103), then the instruction table
read the other way (`Instr.row`) and the encoder. The opcode byte alone selects the instruction (R80); the decoder is
total on any bytes and rejects, by name, only a list that ends before the instruction does. -/

namespace Sys2Proof

open Machine (assemble highByte lowByte)

/-- What the opcode byte fixes: the instruction and how many operand bytes it takes (30_encoding.md R81, R82). -/
inductive Form where
  /-- No operand byte. -/
  | fixed (i : Instr)
  /-- One operand byte. -/
  | byte (f : Byte → Instr)
  /-- Two operand bytes, low byte first, assembled to `hi8 ++ lo8`. -/
  | word (f : Addr → Instr)

/-- Row 0x0x of the grid of 30_encoding.md R84. -/
def opcodeRow0 : List Form := [
  .fixed .brk, .byte .oraIzx, .fixed (.jam .op02), .byte .sloIzx,
  .byte (.nopZp .op04), .byte .oraZp, .byte .aslZp, .byte .sloZp,
  .fixed .php, .byte .oraImm, .fixed .aslAcc, .byte (.ancImm .op0B),
  .word .nopAbs, .word .oraAbs, .word .aslAbs, .word .sloAbs]

/-- Row 0x1x of the grid of 30_encoding.md R84. -/
def opcodeRow1 : List Form := [
  .byte .bplRel, .byte .oraIzy, .fixed (.jam .op12), .byte .sloIzy,
  .byte (.nopZpx .op14), .byte .oraZpx, .byte .aslZpx, .byte .sloZpx,
  .fixed .clc, .word .oraAby, .fixed (.nopImp .op1A), .word .sloAby,
  .word (.nopAbx .op1C), .word .oraAbx, .word .aslAbx, .word .sloAbx]

/-- Row 0x2x of the grid of 30_encoding.md R84. -/
def opcodeRow2 : List Form := [
  .word .jsrAbs, .byte .andIzx, .fixed (.jam .op22), .byte .rlaIzx,
  .byte .bitZp, .byte .andZp, .byte .rolZp, .byte .rlaZp,
  .fixed .plp, .byte .andImm, .fixed .rolAcc, .byte (.ancImm .op2B),
  .word .bitAbs, .word .andAbs, .word .rolAbs, .word .rlaAbs]

/-- Row 0x3x of the grid of 30_encoding.md R84. -/
def opcodeRow3 : List Form := [
  .byte .bmiRel, .byte .andIzy, .fixed (.jam .op32), .byte .rlaIzy,
  .byte (.nopZpx .op34), .byte .andZpx, .byte .rolZpx, .byte .rlaZpx,
  .fixed .sec, .word .andAby, .fixed (.nopImp .op3A), .word .rlaAby,
  .word (.nopAbx .op3C), .word .andAbx, .word .rolAbx, .word .rlaAbx]

/-- Row 0x4x of the grid of 30_encoding.md R84. -/
def opcodeRow4 : List Form := [
  .fixed .rti, .byte .eorIzx, .fixed (.jam .op42), .byte .sreIzx,
  .byte (.nopZp .op44), .byte .eorZp, .byte .lsrZp, .byte .sreZp,
  .fixed .pha, .byte .eorImm, .fixed .lsrAcc, .byte .alrImm,
  .word .jmpAbs, .word .eorAbs, .word .lsrAbs, .word .sreAbs]

/-- Row 0x5x of the grid of 30_encoding.md R84. -/
def opcodeRow5 : List Form := [
  .byte .bvcRel, .byte .eorIzy, .fixed (.jam .op52), .byte .sreIzy,
  .byte (.nopZpx .op54), .byte .eorZpx, .byte .lsrZpx, .byte .sreZpx,
  .fixed .cli, .word .eorAby, .fixed (.nopImp .op5A), .word .sreAby,
  .word (.nopAbx .op5C), .word .eorAbx, .word .lsrAbx, .word .sreAbx]

/-- Row 0x6x of the grid of 30_encoding.md R84. -/
def opcodeRow6 : List Form := [
  .fixed .rts, .byte .adcIzx, .fixed (.jam .op62), .byte .rraIzx,
  .byte (.nopZp .op64), .byte .adcZp, .byte .rorZp, .byte .rraZp,
  .fixed .pla, .byte .adcImm, .fixed .rorAcc, .byte .arrImm,
  .word .jmpInd, .word .adcAbs, .word .rorAbs, .word .rraAbs]

/-- Row 0x7x of the grid of 30_encoding.md R84. -/
def opcodeRow7 : List Form := [
  .byte .bvsRel, .byte .adcIzy, .fixed (.jam .op72), .byte .rraIzy,
  .byte (.nopZpx .op74), .byte .adcZpx, .byte .rorZpx, .byte .rraZpx,
  .fixed .sei, .word .adcAby, .fixed (.nopImp .op7A), .word .rraAby,
  .word (.nopAbx .op7C), .word .adcAbx, .word .rorAbx, .word .rraAbx]

/-- Row 0x8x of the grid of 30_encoding.md R84. -/
def opcodeRow8 : List Form := [
  .byte (.nopImm .op80), .byte .staIzx, .byte (.nopImm .op82), .byte .saxIzx,
  .byte .styZp, .byte .staZp, .byte .stxZp, .byte .saxZp,
  .fixed .dey, .byte (.nopImm .op89), .fixed .txa, .byte .aneImm,
  .word .styAbs, .word .staAbs, .word .stxAbs, .word .saxAbs]

/-- Row 0x9x of the grid of 30_encoding.md R84. -/
def opcodeRow9 : List Form := [
  .byte .bccRel, .byte .staIzy, .fixed (.jam .op92), .byte .shaIzy,
  .byte .styZpx, .byte .staZpx, .byte .stxZpy, .byte .saxZpy,
  .fixed .tya, .word .staAby, .fixed .txs, .word .tasAby,
  .word .shyAbx, .word .staAbx, .word .shxAby, .word .shaAby]

/-- Row 0xAx of the grid of 30_encoding.md R84. -/
def opcodeRowA : List Form := [
  .byte .ldyImm, .byte .ldaIzx, .byte .ldxImm, .byte .laxIzx,
  .byte .ldyZp, .byte .ldaZp, .byte .ldxZp, .byte .laxZp,
  .fixed .tay, .byte .ldaImm, .fixed .tax, .byte .lxaImm,
  .word .ldyAbs, .word .ldaAbs, .word .ldxAbs, .word .laxAbs]

/-- Row 0xBx of the grid of 30_encoding.md R84. -/
def opcodeRowB : List Form := [
  .byte .bcsRel, .byte .ldaIzy, .fixed (.jam .opB2), .byte .laxIzy,
  .byte .ldyZpx, .byte .ldaZpx, .byte .ldxZpy, .byte .laxZpy,
  .fixed .clv, .word .ldaAby, .fixed .tsx, .word .lasAby,
  .word .ldyAbx, .word .ldaAbx, .word .ldxAby, .word .laxAby]

/-- Row 0xCx of the grid of 30_encoding.md R84. -/
def opcodeRowC : List Form := [
  .byte .cpyImm, .byte .cmpIzx, .byte (.nopImm .opC2), .byte .dcpIzx,
  .byte .cpyZp, .byte .cmpZp, .byte .decZp, .byte .dcpZp,
  .fixed .iny, .byte .cmpImm, .fixed .dex, .byte .sbxImm,
  .word .cpyAbs, .word .cmpAbs, .word .decAbs, .word .dcpAbs]

/-- Row 0xDx of the grid of 30_encoding.md R84. -/
def opcodeRowD : List Form := [
  .byte .bneRel, .byte .cmpIzy, .fixed (.jam .opD2), .byte .dcpIzy,
  .byte (.nopZpx .opD4), .byte .cmpZpx, .byte .decZpx, .byte .dcpZpx,
  .fixed .cld, .word .cmpAby, .fixed (.nopImp .opDA), .word .dcpAby,
  .word (.nopAbx .opDC), .word .cmpAbx, .word .decAbx, .word .dcpAbx]

/-- Row 0xEx of the grid of 30_encoding.md R84. -/
def opcodeRowE : List Form := [
  .byte .cpxImm, .byte .sbcIzx, .byte (.nopImm .opE2), .byte .iscIzx,
  .byte .cpxZp, .byte .sbcZp, .byte .incZp, .byte .iscZp,
  .fixed .inx, .byte .sbcImm, .fixed .nop, .byte .usbcImm,
  .word .cpxAbs, .word .sbcAbs, .word .incAbs, .word .iscAbs]

/-- Row 0xFx of the grid of 30_encoding.md R84. -/
def opcodeRowF : List Form := [
  .byte .beqRel, .byte .sbcIzy, .fixed (.jam .opF2), .byte .iscIzy,
  .byte (.nopZpx .opF4), .byte .sbcZpx, .byte .incZpx, .byte .iscZpx,
  .fixed .sed, .word .sbcAby, .fixed (.nopImp .opFA), .word .iscAby,
  .word (.nopAbx .opFC), .word .sbcAbx, .word .incAbx, .word .iscAbx]

/-- The opcode map, indexed by the opcode byte (30_encoding.md R80, R84). -/
def opcodeMap : List Form :=
  opcodeRow0 ++ (opcodeRow1 ++ (opcodeRow2 ++ (opcodeRow3 ++ (opcodeRow4 ++ (opcodeRow5 ++ (opcodeRow6 ++ (opcodeRow7 ++
  (opcodeRow8 ++ (opcodeRow9 ++ (opcodeRowA ++ (opcodeRowB ++ (opcodeRowC ++ (opcodeRowD ++ (opcodeRowE ++
  opcodeRowF))))))))))))))

/-- The map has 256 entries (30_encoding.md R83). -/
theorem opcodeMap_length : opcodeMap.length = 256 := by
  simp only [opcodeMap, List.length_append]
  rfl

/-- "Lookup is by direct indexing on the opcode byte — O(1), no error path" (30_encoding.md R80). -/
def formOf (opcode : Byte) : Form :=
  opcodeMap[opcode.toNat]'(by rw [opcodeMap_length]; exact opcode.isLt)

/-- The instruction of a form and the two bytes after the opcode; a form takes only the bytes it has
(30_encoding.md R81, R82). -/
def Form.build : Form → Byte → Byte → Instr
  | .fixed i, _, _ => i
  | .byte f, b, _ => f b
  | .word f, lo, hi => f (assemble hi lo)

/-- Decode from the opcode and the two bytes after it (40_execution.md R103). -/
def decodeOpcode (opcode b1 b2 : Byte) : Instr := (formOf opcode).build b1 b2

/-- Why a list of bytes is rejected. No opcode is ever rejected (30_encoding.md R83). -/
inductive DecodeError where
  /-- The list is empty. -/
  | noOpcode
  /-- The list ends before the operand bytes of this opcode do. -/
  | missingOperand (opcode : Byte)
  deriving DecidableEq, Repr

/-- The operand stage of `decode`: the instruction and the bytes after it. -/
def Form.take (opcode : Byte) : Form → List Byte → Except DecodeError (Instr × List Byte)
  | .fixed i, rest => .ok (i, rest)
  | .byte f, b :: rest => .ok (f b, rest)
  | .word f, lo :: hi :: rest => .ok (f (assemble hi lo), rest)
  | .byte _, [] => .error (.missingOperand opcode)
  | .word _, [] => .error (.missingOperand opcode)
  | .word _, [_] => .error (.missingOperand opcode)

/-- Decode the first instruction of a list of bytes, total, with the bytes that follow it (30_encoding.md R80-R83). -/
def decode : List Byte → Except DecodeError (Instr × List Byte)
  | [] => .error .noOpcode
  | opcode :: rest => (formOf opcode).take opcode rest

/-- The instruction the decoder reads from a word numbered as spec/opcode_table.json numbers it: the opcode in bits 7..0,
the next byte in bits 15..8, the third in bits 23..16; every bit at or above `nbits` is 0. -/
def decodeTableWord (nbits w : Nat) : Option Instr :=
  let v := w % 2 ^ nbits
  match decode [BitVec.ofNat 8 v, BitVec.ofNat 8 (v / 256), BitVec.ofNat 8 (v / 65536)] with
  | .ok (i, _) => some i
  | .error _ => none


/-- The opcode byte (30_encoding.md R84). -/
def JamOpcode.opcode : JamOpcode → Byte
  | .op02 => 0x02 | .op12 => 0x12 | .op22 => 0x22 | .op32 => 0x32 | .op42 => 0x42 | .op52 => 0x52 | .op62 => 0x62 | .op72 => 0x72 | .op92 => 0x92 | .opB2 => 0xB2 | .opD2 => 0xD2 | .opF2 => 0xF2

/-- The opcode byte (30_encoding.md R84). -/
def NopZpOpcode.opcode : NopZpOpcode → Byte
  | .op04 => 0x04 | .op44 => 0x44 | .op64 => 0x64

/-- The opcode byte (30_encoding.md R84). -/
def AncOpcode.opcode : AncOpcode → Byte
  | .op0B => 0x0B | .op2B => 0x2B

/-- The opcode byte (30_encoding.md R84). -/
def NopZpxOpcode.opcode : NopZpxOpcode → Byte
  | .op14 => 0x14 | .op34 => 0x34 | .op54 => 0x54 | .op74 => 0x74 | .opD4 => 0xD4 | .opF4 => 0xF4

/-- The opcode byte (30_encoding.md R84). -/
def NopImpOpcode.opcode : NopImpOpcode → Byte
  | .op1A => 0x1A | .op3A => 0x3A | .op5A => 0x5A | .op7A => 0x7A | .opDA => 0xDA | .opFA => 0xFA

/-- The opcode byte (30_encoding.md R84). -/
def NopAbxOpcode.opcode : NopAbxOpcode → Byte
  | .op1C => 0x1C | .op3C => 0x3C | .op5C => 0x5C | .op7C => 0x7C | .opDC => 0xDC | .opFC => 0xFC

/-- The opcode byte (30_encoding.md R84). -/
def NopImmOpcode.opcode : NopImmOpcode → Byte
  | .op80 => 0x80 | .op82 => 0x82 | .op89 => 0x89 | .opC2 => 0xC2 | .opE2 => 0xE2

/-- A row of the instruction table with its operand: the descriptor of 30_encoding.md R80. -/
structure Row where
  /-- The opcode byte. -/
  opcode : Byte
  /-- The mnemonic, diagnostic only (40_execution.md R103). -/
  mnemonic : Mnemonic
  /-- The addressing mode with its operand. -/
  operand : Operand
  /-- The base cycle count (30_encoding.md R84). -/
  baseCycles : Nat
  deriving DecidableEq, Repr

/-- The instruction table read from the instruction (30_encoding.md R84, the list). -/
def Instr.row : Instr → Row
  | .brk => ⟨0x00, .brk, .imp, 7⟩
  | .oraIzx zp => ⟨0x01, .ora, (.mem (.izx zp)), 6⟩
  | .jam code => ⟨code.opcode, .jam, .imp, 0⟩
  | .sloIzx zp => ⟨0x03, .slo, (.mem (.izx zp)), 8⟩
  | .nopZp code zp => ⟨code.opcode, .nop, (.mem (.zp zp)), 3⟩
  | .oraZp zp => ⟨0x05, .ora, (.mem (.zp zp)), 3⟩
  | .aslZp zp => ⟨0x06, .asl, (.mem (.zp zp)), 5⟩
  | .sloZp zp => ⟨0x07, .slo, (.mem (.zp zp)), 5⟩
  | .php => ⟨0x08, .php, .imp, 3⟩
  | .oraImm imm => ⟨0x09, .ora, (.imm imm), 2⟩
  | .aslAcc => ⟨0x0A, .asl, .acc, 2⟩
  | .ancImm code imm => ⟨code.opcode, .anc, (.imm imm), 2⟩
  | .nopAbs addr => ⟨0x0C, .nop, (.mem (.abs addr)), 4⟩
  | .oraAbs addr => ⟨0x0D, .ora, (.mem (.abs addr)), 4⟩
  | .aslAbs addr => ⟨0x0E, .asl, (.mem (.abs addr)), 6⟩
  | .sloAbs addr => ⟨0x0F, .slo, (.mem (.abs addr)), 6⟩
  | .bplRel rel => ⟨0x10, .bpl, (.rel rel), 2⟩
  | .oraIzy zp => ⟨0x11, .ora, (.mem (.izy zp)), 5⟩
  | .sloIzy zp => ⟨0x13, .slo, (.mem (.izy zp)), 8⟩
  | .nopZpx code zp => ⟨code.opcode, .nop, (.mem (.zpx zp)), 4⟩
  | .oraZpx zp => ⟨0x15, .ora, (.mem (.zpx zp)), 4⟩
  | .aslZpx zp => ⟨0x16, .asl, (.mem (.zpx zp)), 6⟩
  | .sloZpx zp => ⟨0x17, .slo, (.mem (.zpx zp)), 6⟩
  | .clc => ⟨0x18, .clc, .imp, 2⟩
  | .oraAby addr => ⟨0x19, .ora, (.mem (.aby addr)), 4⟩
  | .nopImp code => ⟨code.opcode, .nop, .imp, 2⟩
  | .sloAby addr => ⟨0x1B, .slo, (.mem (.aby addr)), 7⟩
  | .nopAbx code addr => ⟨code.opcode, .nop, (.mem (.abx addr)), 4⟩
  | .oraAbx addr => ⟨0x1D, .ora, (.mem (.abx addr)), 4⟩
  | .aslAbx addr => ⟨0x1E, .asl, (.mem (.abx addr)), 7⟩
  | .sloAbx addr => ⟨0x1F, .slo, (.mem (.abx addr)), 7⟩
  | .jsrAbs addr => ⟨0x20, .jsr, (.mem (.abs addr)), 6⟩
  | .andIzx zp => ⟨0x21, .and, (.mem (.izx zp)), 6⟩
  | .rlaIzx zp => ⟨0x23, .rla, (.mem (.izx zp)), 8⟩
  | .bitZp zp => ⟨0x24, .bit, (.mem (.zp zp)), 3⟩
  | .andZp zp => ⟨0x25, .and, (.mem (.zp zp)), 3⟩
  | .rolZp zp => ⟨0x26, .rol, (.mem (.zp zp)), 5⟩
  | .rlaZp zp => ⟨0x27, .rla, (.mem (.zp zp)), 5⟩
  | .plp => ⟨0x28, .plp, .imp, 4⟩
  | .andImm imm => ⟨0x29, .and, (.imm imm), 2⟩
  | .rolAcc => ⟨0x2A, .rol, .acc, 2⟩
  | .bitAbs addr => ⟨0x2C, .bit, (.mem (.abs addr)), 4⟩
  | .andAbs addr => ⟨0x2D, .and, (.mem (.abs addr)), 4⟩
  | .rolAbs addr => ⟨0x2E, .rol, (.mem (.abs addr)), 6⟩
  | .rlaAbs addr => ⟨0x2F, .rla, (.mem (.abs addr)), 6⟩
  | .bmiRel rel => ⟨0x30, .bmi, (.rel rel), 2⟩
  | .andIzy zp => ⟨0x31, .and, (.mem (.izy zp)), 5⟩
  | .rlaIzy zp => ⟨0x33, .rla, (.mem (.izy zp)), 8⟩
  | .andZpx zp => ⟨0x35, .and, (.mem (.zpx zp)), 4⟩
  | .rolZpx zp => ⟨0x36, .rol, (.mem (.zpx zp)), 6⟩
  | .rlaZpx zp => ⟨0x37, .rla, (.mem (.zpx zp)), 6⟩
  | .sec => ⟨0x38, .sec, .imp, 2⟩
  | .andAby addr => ⟨0x39, .and, (.mem (.aby addr)), 4⟩
  | .rlaAby addr => ⟨0x3B, .rla, (.mem (.aby addr)), 7⟩
  | .andAbx addr => ⟨0x3D, .and, (.mem (.abx addr)), 4⟩
  | .rolAbx addr => ⟨0x3E, .rol, (.mem (.abx addr)), 7⟩
  | .rlaAbx addr => ⟨0x3F, .rla, (.mem (.abx addr)), 7⟩
  | .rti => ⟨0x40, .rti, .imp, 6⟩
  | .eorIzx zp => ⟨0x41, .eor, (.mem (.izx zp)), 6⟩
  | .sreIzx zp => ⟨0x43, .sre, (.mem (.izx zp)), 8⟩
  | .eorZp zp => ⟨0x45, .eor, (.mem (.zp zp)), 3⟩
  | .lsrZp zp => ⟨0x46, .lsr, (.mem (.zp zp)), 5⟩
  | .sreZp zp => ⟨0x47, .sre, (.mem (.zp zp)), 5⟩
  | .pha => ⟨0x48, .pha, .imp, 3⟩
  | .eorImm imm => ⟨0x49, .eor, (.imm imm), 2⟩
  | .lsrAcc => ⟨0x4A, .lsr, .acc, 2⟩
  | .alrImm imm => ⟨0x4B, .alr, (.imm imm), 2⟩
  | .jmpAbs addr => ⟨0x4C, .jmp, (.mem (.abs addr)), 3⟩
  | .eorAbs addr => ⟨0x4D, .eor, (.mem (.abs addr)), 4⟩
  | .lsrAbs addr => ⟨0x4E, .lsr, (.mem (.abs addr)), 6⟩
  | .sreAbs addr => ⟨0x4F, .sre, (.mem (.abs addr)), 6⟩
  | .bvcRel rel => ⟨0x50, .bvc, (.rel rel), 2⟩
  | .eorIzy zp => ⟨0x51, .eor, (.mem (.izy zp)), 5⟩
  | .sreIzy zp => ⟨0x53, .sre, (.mem (.izy zp)), 8⟩
  | .eorZpx zp => ⟨0x55, .eor, (.mem (.zpx zp)), 4⟩
  | .lsrZpx zp => ⟨0x56, .lsr, (.mem (.zpx zp)), 6⟩
  | .sreZpx zp => ⟨0x57, .sre, (.mem (.zpx zp)), 6⟩
  | .cli => ⟨0x58, .cli, .imp, 2⟩
  | .eorAby addr => ⟨0x59, .eor, (.mem (.aby addr)), 4⟩
  | .sreAby addr => ⟨0x5B, .sre, (.mem (.aby addr)), 7⟩
  | .eorAbx addr => ⟨0x5D, .eor, (.mem (.abx addr)), 4⟩
  | .lsrAbx addr => ⟨0x5E, .lsr, (.mem (.abx addr)), 7⟩
  | .sreAbx addr => ⟨0x5F, .sre, (.mem (.abx addr)), 7⟩
  | .rts => ⟨0x60, .rts, .imp, 6⟩
  | .adcIzx zp => ⟨0x61, .adc, (.mem (.izx zp)), 6⟩
  | .rraIzx zp => ⟨0x63, .rra, (.mem (.izx zp)), 8⟩
  | .adcZp zp => ⟨0x65, .adc, (.mem (.zp zp)), 3⟩
  | .rorZp zp => ⟨0x66, .ror, (.mem (.zp zp)), 5⟩
  | .rraZp zp => ⟨0x67, .rra, (.mem (.zp zp)), 5⟩
  | .pla => ⟨0x68, .pla, .imp, 4⟩
  | .adcImm imm => ⟨0x69, .adc, (.imm imm), 2⟩
  | .rorAcc => ⟨0x6A, .ror, .acc, 2⟩
  | .arrImm imm => ⟨0x6B, .arr, (.imm imm), 2⟩
  | .jmpInd ptr => ⟨0x6C, .jmp, (.mem (.ind ptr)), 5⟩
  | .adcAbs addr => ⟨0x6D, .adc, (.mem (.abs addr)), 4⟩
  | .rorAbs addr => ⟨0x6E, .ror, (.mem (.abs addr)), 6⟩
  | .rraAbs addr => ⟨0x6F, .rra, (.mem (.abs addr)), 6⟩
  | .bvsRel rel => ⟨0x70, .bvs, (.rel rel), 2⟩
  | .adcIzy zp => ⟨0x71, .adc, (.mem (.izy zp)), 5⟩
  | .rraIzy zp => ⟨0x73, .rra, (.mem (.izy zp)), 8⟩
  | .adcZpx zp => ⟨0x75, .adc, (.mem (.zpx zp)), 4⟩
  | .rorZpx zp => ⟨0x76, .ror, (.mem (.zpx zp)), 6⟩
  | .rraZpx zp => ⟨0x77, .rra, (.mem (.zpx zp)), 6⟩
  | .sei => ⟨0x78, .sei, .imp, 2⟩
  | .adcAby addr => ⟨0x79, .adc, (.mem (.aby addr)), 4⟩
  | .rraAby addr => ⟨0x7B, .rra, (.mem (.aby addr)), 7⟩
  | .adcAbx addr => ⟨0x7D, .adc, (.mem (.abx addr)), 4⟩
  | .rorAbx addr => ⟨0x7E, .ror, (.mem (.abx addr)), 7⟩
  | .rraAbx addr => ⟨0x7F, .rra, (.mem (.abx addr)), 7⟩
  | .nopImm code imm => ⟨code.opcode, .nop, (.imm imm), 2⟩
  | .staIzx zp => ⟨0x81, .sta, (.mem (.izx zp)), 6⟩
  | .saxIzx zp => ⟨0x83, .sax, (.mem (.izx zp)), 6⟩
  | .styZp zp => ⟨0x84, .sty, (.mem (.zp zp)), 3⟩
  | .staZp zp => ⟨0x85, .sta, (.mem (.zp zp)), 3⟩
  | .stxZp zp => ⟨0x86, .stx, (.mem (.zp zp)), 3⟩
  | .saxZp zp => ⟨0x87, .sax, (.mem (.zp zp)), 3⟩
  | .dey => ⟨0x88, .dey, .imp, 2⟩
  | .txa => ⟨0x8A, .txa, .imp, 2⟩
  | .aneImm imm => ⟨0x8B, .ane, (.imm imm), 2⟩
  | .styAbs addr => ⟨0x8C, .sty, (.mem (.abs addr)), 4⟩
  | .staAbs addr => ⟨0x8D, .sta, (.mem (.abs addr)), 4⟩
  | .stxAbs addr => ⟨0x8E, .stx, (.mem (.abs addr)), 4⟩
  | .saxAbs addr => ⟨0x8F, .sax, (.mem (.abs addr)), 4⟩
  | .bccRel rel => ⟨0x90, .bcc, (.rel rel), 2⟩
  | .staIzy zp => ⟨0x91, .sta, (.mem (.izy zp)), 6⟩
  | .shaIzy zp => ⟨0x93, .sha, (.mem (.izy zp)), 6⟩
  | .styZpx zp => ⟨0x94, .sty, (.mem (.zpx zp)), 4⟩
  | .staZpx zp => ⟨0x95, .sta, (.mem (.zpx zp)), 4⟩
  | .stxZpy zp => ⟨0x96, .stx, (.mem (.zpy zp)), 4⟩
  | .saxZpy zp => ⟨0x97, .sax, (.mem (.zpy zp)), 4⟩
  | .tya => ⟨0x98, .tya, .imp, 2⟩
  | .staAby addr => ⟨0x99, .sta, (.mem (.aby addr)), 5⟩
  | .txs => ⟨0x9A, .txs, .imp, 2⟩
  | .tasAby addr => ⟨0x9B, .tas, (.mem (.aby addr)), 5⟩
  | .shyAbx addr => ⟨0x9C, .shy, (.mem (.abx addr)), 5⟩
  | .staAbx addr => ⟨0x9D, .sta, (.mem (.abx addr)), 5⟩
  | .shxAby addr => ⟨0x9E, .shx, (.mem (.aby addr)), 5⟩
  | .shaAby addr => ⟨0x9F, .sha, (.mem (.aby addr)), 5⟩
  | .ldyImm imm => ⟨0xA0, .ldy, (.imm imm), 2⟩
  | .ldaIzx zp => ⟨0xA1, .lda, (.mem (.izx zp)), 6⟩
  | .ldxImm imm => ⟨0xA2, .ldx, (.imm imm), 2⟩
  | .laxIzx zp => ⟨0xA3, .lax, (.mem (.izx zp)), 6⟩
  | .ldyZp zp => ⟨0xA4, .ldy, (.mem (.zp zp)), 3⟩
  | .ldaZp zp => ⟨0xA5, .lda, (.mem (.zp zp)), 3⟩
  | .ldxZp zp => ⟨0xA6, .ldx, (.mem (.zp zp)), 3⟩
  | .laxZp zp => ⟨0xA7, .lax, (.mem (.zp zp)), 3⟩
  | .tay => ⟨0xA8, .tay, .imp, 2⟩
  | .ldaImm imm => ⟨0xA9, .lda, (.imm imm), 2⟩
  | .tax => ⟨0xAA, .tax, .imp, 2⟩
  | .lxaImm imm => ⟨0xAB, .lxa, (.imm imm), 2⟩
  | .ldyAbs addr => ⟨0xAC, .ldy, (.mem (.abs addr)), 4⟩
  | .ldaAbs addr => ⟨0xAD, .lda, (.mem (.abs addr)), 4⟩
  | .ldxAbs addr => ⟨0xAE, .ldx, (.mem (.abs addr)), 4⟩
  | .laxAbs addr => ⟨0xAF, .lax, (.mem (.abs addr)), 4⟩
  | .bcsRel rel => ⟨0xB0, .bcs, (.rel rel), 2⟩
  | .ldaIzy zp => ⟨0xB1, .lda, (.mem (.izy zp)), 5⟩
  | .laxIzy zp => ⟨0xB3, .lax, (.mem (.izy zp)), 5⟩
  | .ldyZpx zp => ⟨0xB4, .ldy, (.mem (.zpx zp)), 4⟩
  | .ldaZpx zp => ⟨0xB5, .lda, (.mem (.zpx zp)), 4⟩
  | .ldxZpy zp => ⟨0xB6, .ldx, (.mem (.zpy zp)), 4⟩
  | .laxZpy zp => ⟨0xB7, .lax, (.mem (.zpy zp)), 4⟩
  | .clv => ⟨0xB8, .clv, .imp, 2⟩
  | .ldaAby addr => ⟨0xB9, .lda, (.mem (.aby addr)), 4⟩
  | .tsx => ⟨0xBA, .tsx, .imp, 2⟩
  | .lasAby addr => ⟨0xBB, .las, (.mem (.aby addr)), 4⟩
  | .ldyAbx addr => ⟨0xBC, .ldy, (.mem (.abx addr)), 4⟩
  | .ldaAbx addr => ⟨0xBD, .lda, (.mem (.abx addr)), 4⟩
  | .ldxAby addr => ⟨0xBE, .ldx, (.mem (.aby addr)), 4⟩
  | .laxAby addr => ⟨0xBF, .lax, (.mem (.aby addr)), 4⟩
  | .cpyImm imm => ⟨0xC0, .cpy, (.imm imm), 2⟩
  | .cmpIzx zp => ⟨0xC1, .cmp, (.mem (.izx zp)), 6⟩
  | .dcpIzx zp => ⟨0xC3, .dcp, (.mem (.izx zp)), 8⟩
  | .cpyZp zp => ⟨0xC4, .cpy, (.mem (.zp zp)), 3⟩
  | .cmpZp zp => ⟨0xC5, .cmp, (.mem (.zp zp)), 3⟩
  | .decZp zp => ⟨0xC6, .dec, (.mem (.zp zp)), 5⟩
  | .dcpZp zp => ⟨0xC7, .dcp, (.mem (.zp zp)), 5⟩
  | .iny => ⟨0xC8, .iny, .imp, 2⟩
  | .cmpImm imm => ⟨0xC9, .cmp, (.imm imm), 2⟩
  | .dex => ⟨0xCA, .dex, .imp, 2⟩
  | .sbxImm imm => ⟨0xCB, .sbx, (.imm imm), 2⟩
  | .cpyAbs addr => ⟨0xCC, .cpy, (.mem (.abs addr)), 4⟩
  | .cmpAbs addr => ⟨0xCD, .cmp, (.mem (.abs addr)), 4⟩
  | .decAbs addr => ⟨0xCE, .dec, (.mem (.abs addr)), 6⟩
  | .dcpAbs addr => ⟨0xCF, .dcp, (.mem (.abs addr)), 6⟩
  | .bneRel rel => ⟨0xD0, .bne, (.rel rel), 2⟩
  | .cmpIzy zp => ⟨0xD1, .cmp, (.mem (.izy zp)), 5⟩
  | .dcpIzy zp => ⟨0xD3, .dcp, (.mem (.izy zp)), 8⟩
  | .cmpZpx zp => ⟨0xD5, .cmp, (.mem (.zpx zp)), 4⟩
  | .decZpx zp => ⟨0xD6, .dec, (.mem (.zpx zp)), 6⟩
  | .dcpZpx zp => ⟨0xD7, .dcp, (.mem (.zpx zp)), 6⟩
  | .cld => ⟨0xD8, .cld, .imp, 2⟩
  | .cmpAby addr => ⟨0xD9, .cmp, (.mem (.aby addr)), 4⟩
  | .dcpAby addr => ⟨0xDB, .dcp, (.mem (.aby addr)), 7⟩
  | .cmpAbx addr => ⟨0xDD, .cmp, (.mem (.abx addr)), 4⟩
  | .decAbx addr => ⟨0xDE, .dec, (.mem (.abx addr)), 7⟩
  | .dcpAbx addr => ⟨0xDF, .dcp, (.mem (.abx addr)), 7⟩
  | .cpxImm imm => ⟨0xE0, .cpx, (.imm imm), 2⟩
  | .sbcIzx zp => ⟨0xE1, .sbc, (.mem (.izx zp)), 6⟩
  | .iscIzx zp => ⟨0xE3, .isc, (.mem (.izx zp)), 8⟩
  | .cpxZp zp => ⟨0xE4, .cpx, (.mem (.zp zp)), 3⟩
  | .sbcZp zp => ⟨0xE5, .sbc, (.mem (.zp zp)), 3⟩
  | .incZp zp => ⟨0xE6, .inc, (.mem (.zp zp)), 5⟩
  | .iscZp zp => ⟨0xE7, .isc, (.mem (.zp zp)), 5⟩
  | .inx => ⟨0xE8, .inx, .imp, 2⟩
  | .sbcImm imm => ⟨0xE9, .sbc, (.imm imm), 2⟩
  | .nop => ⟨0xEA, .nop, .imp, 2⟩
  | .usbcImm imm => ⟨0xEB, .sbc, (.imm imm), 2⟩
  | .cpxAbs addr => ⟨0xEC, .cpx, (.mem (.abs addr)), 4⟩
  | .sbcAbs addr => ⟨0xED, .sbc, (.mem (.abs addr)), 4⟩
  | .incAbs addr => ⟨0xEE, .inc, (.mem (.abs addr)), 6⟩
  | .iscAbs addr => ⟨0xEF, .isc, (.mem (.abs addr)), 6⟩
  | .beqRel rel => ⟨0xF0, .beq, (.rel rel), 2⟩
  | .sbcIzy zp => ⟨0xF1, .sbc, (.mem (.izy zp)), 5⟩
  | .iscIzy zp => ⟨0xF3, .isc, (.mem (.izy zp)), 8⟩
  | .sbcZpx zp => ⟨0xF5, .sbc, (.mem (.zpx zp)), 4⟩
  | .incZpx zp => ⟨0xF6, .inc, (.mem (.zpx zp)), 6⟩
  | .iscZpx zp => ⟨0xF7, .isc, (.mem (.zpx zp)), 6⟩
  | .sed => ⟨0xF8, .sed, .imp, 2⟩
  | .sbcAby addr => ⟨0xF9, .sbc, (.mem (.aby addr)), 4⟩
  | .iscAby addr => ⟨0xFB, .isc, (.mem (.aby addr)), 7⟩
  | .sbcAbx addr => ⟨0xFD, .sbc, (.mem (.abx addr)), 4⟩
  | .incAbx addr => ⟨0xFE, .inc, (.mem (.abx addr)), 7⟩
  | .iscAbx addr => ⟨0xFF, .isc, (.mem (.abx addr)), 7⟩

/-- The opcode byte of an instruction (30_encoding.md R84). -/
def Instr.opcode (i : Instr) : Byte := i.row.opcode

/-- The mnemonic of an instruction (00_scope.md R6, diagnostic only). -/
def Instr.mnemonic (i : Instr) : Mnemonic := i.row.mnemonic

/-- The addressing mode and operand of an instruction. -/
def Instr.operand (i : Instr) : Operand := i.row.operand

/-- The base cycle count of an instruction (30_encoding.md R84). -/
def Instr.baseCycles (i : Instr) : Nat := i.row.baseCycles

/-- The descriptor that the opcode byte selects (40_execution.md R103), shown with operand bytes 0. -/
def descriptor (opcode : Byte) : Row := (decodeOpcode opcode 0 0).row

/-- The addressing mode of an operand (30_encoding.md R81). -/
def Operand.mode : Operand → Mode
  | .imp => .imp
  | .acc => .acc
  | .imm _ => .imm
  | .rel _ => .rel
  | .mem (.zp _) => .zp
  | .mem (.zpx _) => .zpx
  | .mem (.zpy _) => .zpy
  | .mem (.abs _) => .abs
  | .mem (.abx _) => .abx
  | .mem (.aby _) => .aby
  | .mem (.ind _) => .ind
  | .mem (.izx _) => .izx
  | .mem (.izy _) => .izy

/-- The operand bytes of a mode that resolves to an address, in the order they stand (30_encoding.md R81). -/
def Place.bytes : Place → List Byte
  | .zp b | .zpx b | .zpy b | .izx b | .izy b => [b]
  | .abs a | .abx a | .aby a | .ind a => [lowByte a, highByte a]

/-- The operand bytes of an operand, in the order they stand (30_encoding.md R81). -/
def Operand.bytes : Operand → List Byte
  | .imp | .acc => []
  | .imm b | .rel b => [b]
  | .mem p => p.bytes

/-- The length of an instruction as resolved: the opcode and the operand bytes of its mode (30_encoding.md R81). BRK's
padding byte is skipped by its handler and is no operand byte (log entry 11). -/
def Operand.length (o : Operand) : Nat := 1 + o.bytes.length

/-- The bytes of an instruction: its opcode and its operand bytes (30_encoding.md R80-R82). -/
def encode (i : Instr) : List Byte := i.opcode :: i.operand.bytes

/-- The mnemonic as text, the host's diagnostic query (00_scope.md R6). -/
def Mnemonic.name : Mnemonic → String
  | .adc => "ADC" | .alr => "ALR" | .anc => "ANC" | .and => "AND"
  | .ane => "ANE" | .arr => "ARR" | .asl => "ASL" | .bcc => "BCC"
  | .bcs => "BCS" | .beq => "BEQ" | .bit => "BIT" | .bmi => "BMI"
  | .bne => "BNE" | .bpl => "BPL" | .brk => "BRK" | .bvc => "BVC"
  | .bvs => "BVS" | .clc => "CLC" | .cld => "CLD" | .cli => "CLI"
  | .clv => "CLV" | .cmp => "CMP" | .cpx => "CPX" | .cpy => "CPY"
  | .dcp => "DCP" | .dec => "DEC" | .dex => "DEX" | .dey => "DEY"
  | .eor => "EOR" | .inc => "INC" | .inx => "INX" | .iny => "INY"
  | .isc => "ISC" | .jam => "JAM" | .jmp => "JMP" | .jsr => "JSR"
  | .las => "LAS" | .lax => "LAX" | .lda => "LDA" | .ldx => "LDX"
  | .ldy => "LDY" | .lsr => "LSR" | .lxa => "LXA" | .nop => "NOP"
  | .ora => "ORA" | .pha => "PHA" | .php => "PHP" | .pla => "PLA"
  | .plp => "PLP" | .rla => "RLA" | .rol => "ROL" | .ror => "ROR"
  | .rra => "RRA" | .rti => "RTI" | .rts => "RTS" | .sax => "SAX"
  | .sbc => "SBC" | .sbx => "SBX" | .sec => "SEC" | .sed => "SED"
  | .sei => "SEI" | .sha => "SHA" | .shx => "SHX" | .shy => "SHY"
  | .slo => "SLO" | .sre => "SRE" | .sta => "STA" | .stx => "STX"
  | .sty => "STY" | .tas => "TAS" | .tax => "TAX" | .tay => "TAY"
  | .tsx => "TSX" | .txa => "TXA" | .txs => "TXS" | .tya => "TYA"

end Sys2Proof
end

