-- ==== Sys2Proof/Config.lean ====
section
/-! DEFINITION. What an implementation fixes: the run constants of 00_scope.md R7 that the spec leaves OPEN. The
launch parameters LAUNCH_A, LAUNCH_X, LAUNCH_Y, RAM_INIT and the cartridge are arguments of `Machine.State.launch`. -/

namespace Sys2Proof

/-- `ANE_CONST`, an OPEN byte, constant for a run (00_scope.md R7, 44_undocumented.md R283). Log entry 8. -/
opaque Config.aneConst : Byte

/-- `LXA_CONST`, an OPEN byte, constant for a run (00_scope.md R7, 44_undocumented.md R284). Log entry 8. -/
opaque Config.lxaConst : Byte

/-- `PRG_SIZE`: program storage is exactly 16384 or 32768 bytes (00_scope.md R7, 20_memory.md R56). -/
inductive ProgramSize where
  /-- 16384 bytes, folded twice into the cartridge window. -/
  | kib16
  /-- 32768 bytes, addressed directly. -/
  | kib32
  deriving DecidableEq, Repr

/-- The number of bytes of a program storage (20_memory.md R56). -/
def ProgramSize.bytes : ProgramSize → Nat
  | .kib16 => 16384
  | .kib32 => 32768

end Sys2Proof
end

