-- ==== Sys2Proof/WellFormed.lean ====
section
/-! DEFINITION. Well-formedness of what is given to the machine. Every term of `Instr` is an instruction of the core: its
operand types hold exactly the operand values of 30_encoding.md R82, every opcode is defined (R83) and no operand value
is illegal (41_load_store_transfer.md R140), so the check on instructions accepts every term. The one input that can be
ill-formed is a program image (20_memory.md R56). -/

namespace Sys2Proof

/-- Every instruction term is well formed: no opcode is reserved and no operand value is illegal (30_encoding.md R83,
R87; 41_load_store_transfer.md R140). -/
def Instr.wellFormed (_ : Instr) : Bool := true

/-- The size of program storage that a list of bytes has, if the zero-mapper can fold it: "A `PRG_SIZE` other than 16384
or 32768 is refused by the model's configuration check" (20_memory.md R56). -/
def programSizeOf (bytes : List Byte) : Option ProgramSize :=
  if bytes.length = ProgramSize.kib16.bytes then some .kib16
  else if bytes.length = ProgramSize.kib32.bytes then some .kib32
  else none

/-- A program image is well formed when its length is one of the two sizes (20_memory.md R56). Log entry 7. -/
def imageWellFormed (bytes : List Byte) : Bool := (programSizeOf bytes).isSome

end Sys2Proof
end

