-- ==== Sys2Proof/Machine/Bus.lean ====
section
/-! DEFINITION. Storage and the address bus (20_memory.md). A storage is a list of (offset, byte) cells in one canonical
form: offsets strictly rising, below the storage's size, and no cell equal to what an unlisted offset reads as. -/

namespace Sys2Proof.Machine

/-- A byte storage: work RAM keyed by RAM index, or program storage keyed by offset. -/
abbrev Memory := List Host.Cell

/-- What an unlisted offset reads as. DESIGN CHOICE, unsafe for RAM (log entry 2); for program storage only the way its
bytes are written down (log entry 6). -/
def Memory.unlisted : Byte := 0#8

/-- Read one byte of a storage. -/
def Memory.read : Memory → Nat → Byte
  | [], _ => Memory.unlisted
  | (k, v) :: rest, a => if k = a then v else Memory.read rest a

/-- Put a cell before the first cell of a higher offset. -/
def Memory.insertCell (a : Nat) (v : Byte) : Memory → Memory
  | [] => [(a, v)]
  | (k, w) :: rest => if a < k then (a, v) :: (k, w) :: rest else (k, w) :: Memory.insertCell a v rest

/-- Write one byte of a storage, keeping the canonical form. -/
def Memory.write (m : Memory) (a : Nat) (v : Byte) : Memory :=
  let others := m.filter (fun cell => cell.1 != a)
  if v = Memory.unlisted then others else Memory.insertCell a v others

/-- The canonical form of a storage of `size` bytes. -/
abbrev Memory.wf (size : Nat) (m : Memory) : Prop :=
  m.Pairwise (fun c d => c.1 < d.1) ∧ ∀ c ∈ m, c.1 < size ∧ c.2 ≠ Memory.unlisted

/-- The size of work RAM in bytes (20_memory.md R52; 00_scope.md R7). -/
def ramSize : Nat := 2048

/-- A cartridge image as the bus sees it: its program storage and its length, nothing else (20_memory.md R56;
10_state.md R38). Log entry 6. -/
structure Cartridge where
  /-- `PRG_SIZE`. -/
  size : ProgramSize
  /-- `PRG`, keyed by offset. -/
  prg : Memory
  deriving DecidableEq, Repr

/-- The program storage is in canonical form. -/
abbrev Cartridge.wf (c : Cartridge) : Prop := c.prg.wf c.size.bytes

/-- The cells of a list of bytes from an offset on, in canonical form. -/
def Memory.cellsFrom : Nat → List Byte → Memory
  | _, [] => []
  | k, b :: rest => if b = Memory.unlisted then Memory.cellsFrom (k + 1) rest else (k, b) :: Memory.cellsFrom (k + 1) rest

/-- Why a cartridge image is refused. -/
inductive ImageError where
  /-- The length is neither 16384 nor 32768 bytes (20_memory.md R56). -/
  | programSize (length : Nat)
  deriving DecidableEq, Repr

/-- Attach a cartridge image: the configuration check of 20_memory.md R56 and the program bytes. Log entry 7. -/
def Cartridge.ofBytes (bytes : List Byte) : Except ImageError Cartridge :=
  match programSizeOf bytes with
  | some size => .ok { size := size, prg := Memory.cellsFrom 0 bytes }
  | none => .error (.programSize bytes.length)

/-- The four branches of the decoder (20_memory.md R51). -/
inductive Region where
  /-- 0x0000-0x1FFF (R52). -/
  | workRam
  /-- 0x2000-0x3FFF, a stub (R53). -/
  | video
  /-- 0x4000-0x7FFF, unmapped (R54). -/
  | unmapped
  /-- 0x8000-0xFFFF (R55-R57). -/
  | cartridge
  deriving DecidableEq, Repr

/-- The branch of an address, "by its value alone" (20_memory.md R51, R58). -/
def regionOf (a : Addr) : Region :=
  if a.toNat ≤ 0x1FFF then .workRam
  else if a.toNat ≤ 0x3FFF then .video
  else if a.toNat ≤ 0x7FFF then .unmapped
  else .cartridge

/-- `address & 0x07FF`, the RAM byte of an address of the work-RAM branch (20_memory.md R52). -/
def ramIndex (a : Addr) : Nat := (a &&& 0x07FF#16).toNat

/-- `(address - 0x8000) % PRG_SIZE`, the offset in program storage (20_memory.md R56). -/
def prgOffset (size : ProgramSize) (a : Addr) : Nat := (a.toNat - 0x8000) % size.bytes

/-- `bus_read` (20_memory.md R58). -/
def busRead (ram : Memory) (cart : Option Cartridge) (a : Addr) : Byte :=
  match regionOf a with
  | .workRam => ram.read (ramIndex a)
  | .video => 0#8
  | .unmapped => 0#8
  | .cartridge =>
    match cart with
    | none => 0#8
    | some c => c.prg.read (prgOffset c.size a)

/-- `bus_write` (20_memory.md R58): the new contents of work RAM. Nothing else can change. -/
def busWrite (ram : Memory) (a : Addr) (v : Byte) : Memory :=
  match regionOf a with
  | .workRam => ram.write (ramIndex a) v
  | .video => ram
  | .unmapped => ram
  | .cartridge => ram

/-- `vector(a)`: a little-endian 16-bit pointer (40_execution.md R128; 20_memory.md R59). -/
def readVector (ram : Memory) (cart : Option Cartridge) (a : Addr) : Addr :=
  assemble (busRead ram cart (a + 1#16)) (busRead ram cart a)

/-- The reset vector (20_memory.md R63). -/
def resetVector : Addr := 0xFFFC#16

/-- The IRQ/BRK vector (20_memory.md R63). -/
def breakVector : Addr := 0xFFFE#16

/-- SP at launch (70_reset_and_hazards.md R350). -/
def launchSp : Byte := 0xFD#8

end Sys2Proof.Machine
end

