-- ==== Sys2Proof/Machine/Flags.lean ====
section
/-! DEFINITION. The status register and every flag computation the spec gives (10_state.md R25-R34; 40_execution.md R127;
42_arith_logic_shift.md R171-R173; 44_undocumented.md R279-R282). A computation takes the old status and answers the new
one, with the 8-bit result where there is one. -/

namespace Sys2Proof.Machine

/-- The status register P, bit 7 first (10_state.md R25). -/
structure Status where
  /-- Negative, bit 7 (R33). -/
  n : Bool
  /-- Overflow, bit 6 (R32). -/
  v : Bool
  /-- Unused, bit 5, 1 between steps (R31). -/
  u : Bool
  /-- Break, bit 4, 0 between steps (R30). -/
  b : Bool
  /-- DecimalMode, bit 3, inert (R29). -/
  d : Bool
  /-- InterruptDisable, bit 2 (R28). -/
  i : Bool
  /-- Zero, bit 1 (R27). -/
  z : Bool
  /-- Carry, bit 0 (R26). -/
  c : Bool
  deriving DecidableEq, Repr

/-- The status byte `N<<7 | V<<6 | U<<5 | B<<4 | D<<3 | I<<2 | Z<<1 | C` (10_state.md R25, R34). -/
def Status.toByte (p : Status) : Byte :=
  bitAt 7 p.n ||| bitAt 6 p.v ||| bitAt 5 p.u ||| bitAt 4 p.b ||| bitAt 3 p.d ||| bitAt 2 p.i ||| bitAt 1 p.z |||
    bitAt 0 p.c

/-- The status register of a byte (10_state.md R25). -/
def Status.ofByte (x : Byte) : Status :=
  { n := x.getLsbD 7, v := x.getLsbD 6, u := x.getLsbD 5, b := x.getLsbD 4,
    d := x.getLsbD 3, i := x.getLsbD 2, z := x.getLsbD 1, c := x.getLsbD 0 }

/-- The copy that PHP and BRK push: `P OR 0x30` (43_control_stack_flags.md R232, R235). -/
def Status.pushed (p : Status) : Byte := p.toByte ||| 0x30#8

/-- The register that PLP and RTI load: `(p AND 0xCF) OR 0x20` (43_control_stack_flags.md R233, R237). -/
def Status.pulled (x : Byte) : Status := Status.ofByte ((x &&& 0xCF#8) ||| 0x20#8)

/-- P = 0x24 at launch: I = 1, U = 1, the rest 0 (70_reset_and_hazards.md R350). -/
def Status.launch : Status := Status.ofByte 0x24#8

/-- `setNZ(v)`: `P.Z <- (v = 0); P.N <- v[7]` (40_execution.md R127). -/
def Status.setNZ (p : Status) (v : Byte) : Status := { p with z := v == 0#8, n := v.getLsbD 7 }

/-- `addCore(m)` on A (42_arith_logic_shift.md R171): the new A and status. Binary whatever D holds (R170). -/
def addCore (a m : Byte) (p : Status) : Byte × Status :=
  let sum := a.toNat + m.toNat + p.c.toNat
  let r := BitVec.ofNat 8 sum
  let overflow := (~~~(a ^^^ m) &&& (a ^^^ r) &&& 0x80#8) != 0#8
  (r, { p with c := decide (sum > 0xFF), v := overflow }.setNZ r)

/-- `compareCore(r, m)` (42_arith_logic_shift.md R172). -/
def compareCore (r m : Byte) (p : Status) : Status :=
  let t := zext16 r - zext16 m
  { p with c := decide (m.toNat ≤ r.toNat), z := r == m, n := t.getLsbD 7 }

/-- `aslCore(m)` (42_arith_logic_shift.md R173). -/
def aslCore (m : Byte) (p : Status) : Byte × Status :=
  let r := m <<< 1
  (r, { p with c := m.getLsbD 7 }.setNZ r)

/-- `lsrCore(m)` (42_arith_logic_shift.md R173). -/
def lsrCore (m : Byte) (p : Status) : Byte × Status :=
  let r := m >>> 1
  (r, { p with c := m.getLsbD 0 }.setNZ r)

/-- `rolCore(m)`, folding in the old carry (42_arith_logic_shift.md R173). -/
def rolCore (m : Byte) (p : Status) : Byte × Status :=
  let r := (m <<< 1) ||| bitAt 0 p.c
  (r, { p with c := m.getLsbD 7 }.setNZ r)

/-- `rorCore(m)`, folding in the old carry (42_arith_logic_shift.md R173). -/
def rorCore (m : Byte) (p : Status) : Byte × Status :=
  let r := (m >>> 1) ||| bitAt 7 p.c
  (r, { p with c := m.getLsbD 0 }.setNZ r)

/-- BIT: Z from `A AND m`, N and V "copied directly from bits 7 and 6 of the operand" (42_arith_logic_shift.md R182). -/
def bitTest (a m : Byte) (p : Status) : Status :=
  { p with z := (a &&& m) == 0#8, n := m.getLsbD 7, v := m.getLsbD 6 }

/-- ANC: A AND m, then C takes the new bit 7 (44_undocumented.md R279). -/
def ancCore (a m : Byte) (p : Status) : Byte × Status :=
  let r := a &&& m
  (r, { p.setNZ r with c := r.getLsbD 7 })

/-- ALR: AND, then shift right (44_undocumented.md R280). -/
def alrCore (a m : Byte) (p : Status) : Byte × Status :=
  let t := a &&& m
  let r := t >>> 1
  (r, { p with c := t.getLsbD 0 }.setNZ r)

/-- ARR: AND, then rotate right with C and V from bits 6 and 5 of the result (44_undocumented.md R281). -/
def arrCore (a m : Byte) (p : Status) : Byte × Status :=
  let t := a &&& m
  let r := (t >>> 1) ||| bitAt 7 p.c
  (r, { p.setNZ r with c := r.getLsbD 6, v := r.getLsbD 6 ^^ r.getLsbD 5 })

/-- SBX: `(A AND X) - m`, C as a compare (44_undocumented.md R282). -/
def sbxCore (a x m : Byte) (p : Status) : Byte × Status :=
  let t := a &&& x
  let r := t - m
  (r, { p with c := decide (m.toNat ≤ t.toNat) }.setNZ r)

end Sys2Proof.Machine
end

