-- ==== Sys2Proof/Machine/State.lean ====
section
/-! DEFINITION. The state of the block between steps (10_state.md R42), the launch (70_reset_and_hazards.md R350) and the
state after reset. The scratch context of an instruction is no state (10_state.md R35). -/

namespace Sys2Proof.Machine

/-- The outcome of a step (40_execution.md R100). -/
inductive StepOutcome where
  /-- The step executed an instruction other than JAM. -/
  | ok
  /-- The step executed JAM, or was taken in the halted state (60_exceptions.md R320, R321). -/
  | halted
  deriving DecidableEq, Repr

/-- What a step returns to the host beside the state: `(cycles, outcome)` (40_execution.md R100, R101). -/
structure StepReport where
  /-- The number of clock cycles (40_execution.md R107). -/
  cycles : Nat
  /-- Ok or Halted. -/
  outcome : StepOutcome
  deriving DecidableEq, Repr

/-- The whole state (10_state.md R42), with the attached cartridge (R38) and the last step's report. -/
structure State where
  /-- The accumulator (10_state.md R20). -/
  a : Byte
  /-- Index register X (10_state.md R21). -/
  x : Byte
  /-- Index register Y (10_state.md R22). -/
  y : Byte
  /-- The stack pointer, an offset into page 0x01 (10_state.md R23). -/
  sp : Byte
  /-- The program counter (10_state.md R24). -/
  pc : Addr
  /-- The status register (10_state.md R25). -/
  p : Status
  /-- The halted condition (10_state.md R36). -/
  halted : Bool
  /-- Work RAM, keyed by RAM index 0..0x07FF (10_state.md R37). -/
  ram : Memory
  /-- The attached cartridge, or none; constant over a run (10_state.md R38). -/
  cart : Option Cartridge
  /-- The model's own field: what the last step returned to the host, none before the first step. No step reads it.
  DESIGN CHOICE, safe (log entry 5). -/
  report : Option StepReport
  deriving DecidableEq, Repr

/-- Why a step could stop with a fault: never. The bus is total, every opcode is defined, no operand is illegal, and the
one fault condition, JAM, has a next state (20_memory.md R50; 30_encoding.md R83; 60_exceptions.md R320, R321). The type
has no constructor. Safe. Log entries 4 and 20. -/
inductive Fault where
  deriving DecidableEq, Repr

/-- Why an instruction has no meaning in this model. -/
inductive Refusal where
  /-- Raised only by an arm of `exec` whose instruction has no meaning yet. Safe. No arm raises it (log entry 20). -/
  | notModelled (mnemonic : String)
  deriving DecidableEq, Repr

/-- The launch state (70_reset_and_hazards.md R350) for the OPEN parameters LAUNCH_A, LAUNCH_X, LAUNCH_Y, RAM_INIT and
the cartridge that the host attached before it. -/
def State.launch (cart : Option Cartridge) (launchA launchX launchY : Byte) (ramInit : Memory) : State :=
  { a := launchA, x := launchX, y := launchY, sp := launchSp, pc := readVector ramInit cart resetVector,
    p := Status.launch, halted := false, ram := ramInit, cart := cart, report := none }

/-- The launch state with the OPEN parameters at the values the assumption log names: A = X = Y = 0 (log entry 1), no
RAM cell listed (log entry 2), no cartridge attached (log entry 3). DESIGN CHOICE, unsafe. -/
def State.reset : State := State.launch none 0#8 0#8 0#8 []

end Sys2Proof.Machine
end

