-- ==== Sys2Proof/Machine/Ops.lean ====
section
/-! DEFINITION. The named operations over registers and memory: bus access, the stack, the program counter, the status
byte, the trap entry and its return, the fetch of an instruction, and what a step returns. -/

namespace Sys2Proof.Machine

/-- The answer of a step or a meaning. -/
abbrev Result := Host.Outcome State Fault Refusal

/-- `MemRead(a, 1)` (00_scope.md R10; 20_memory.md R58). -/
def State.read (s : State) (a : Addr) : Byte := busRead s.ram s.cart a

/-- `MemWrite(a, 1, v)` (00_scope.md R10; 20_memory.md R58). -/
def State.write (s : State) (a : Addr) (v : Byte) : State := { s with ram := busWrite s.ram a v }

/-- `vector(a)` (40_execution.md R128). -/
def State.vector (s : State) (a : Addr) : Addr := readVector s.ram s.cart a

/-- The address that SP designates: `0x0100 + SP` (10_state.md R23). -/
def stackAddr (sp : Byte) : Addr := 0x0100#16 + zext16 sp

/-- `push(v)` (40_execution.md R125). -/
def State.push (s : State) (v : Byte) : State :=
  let w := s.write (stackAddr s.sp) v
  { w with sp := w.sp - 1#8 }

/-- The state after `pop()`: SP is incremented (40_execution.md R126). -/
def State.popped (s : State) : State := { s with sp := s.sp + 1#8 }

/-- The byte that `pop()` returns, read at the incremented SP (40_execution.md R126). -/
def State.top (s : State) : Byte := s.popped.read (stackAddr s.popped.sp)

/-- `PC <- (PC + n) & 0xFFFF`: the opcode fetch and the resolver (40_execution.md R102, R124). -/
def State.advance (s : State) (n : Nat) : State := { s with pc := s.pc + BitVec.ofNat 16 n }

/-- `setNZ(v)` on the live status (40_execution.md R127). -/
def State.setNZ (s : State) (v : Byte) : State := { s with p := s.p.setNZ v }

/-- The two pushes of a 16-bit value, high byte first (43_control_stack_flags.md R230, R232). -/
def State.pushAddr (s : State) (a : Addr) : State := (s.push (highByte a)).push (lowByte a)

/-- Taking the core's one trap, from the state after the opcode fetch (43_control_stack_flags.md R232;
60_exceptions.md R324): PC skips the padding byte, PC and the status with B and U forced to 1 are pushed, I is set, and
PC comes from the vector at 0xFFFE. D is not cleared and there is no mode. -/
def State.takeBreak (s : State) : State :=
  let skipped := s.advance 1
  let saved := (skipped.pushAddr skipped.pc).push skipped.p.pushed
  { saved with p := { saved.p with i := true }, pc := saved.vector breakVector }

/-- The return from the trap (43_control_stack_flags.md R233; 60_exceptions.md R326): the status byte is popped, then PC
low, then PC high, with no adjustment. -/
def State.returnFromBreak (s : State) : State :=
  let s1 := s.popped
  let s2 := s1.popped
  let s3 := s2.popped
  { s3 with p := Status.pulled s.top, pc := assemble s2.top s1.top }

/-- The instruction at PC: the opcode and its operand bytes, read through the bus at increasing addresses that wrap at
0xFFFF (40_execution.md R101-R105; 20_memory.md R59, R68). Log entry 10. -/
def State.fetchInstr (s : State) : Instr :=
  decodeOpcode (s.read s.pc) (s.read (s.pc + 1#16)) (s.read (s.pc + 2#16))

/-- The end of a step: the state and `(cycles, outcome)`, Halted exactly when the handler set `halted`
(40_execution.md R101). -/
def State.complete (s : State) (cycles : Nat) : Result :=
  .next { s with report := some { cycles := cycles, outcome := if s.halted then .halted else .ok } }

/-- The step taken in the halted state: nothing changes and `(0, Halted)` is returned (60_exceptions.md R321). -/
def State.haltedStep (s : State) : Result := .next { s with report := some { cycles := 0, outcome := .halted } }

/-- The host's reset (70_reset_and_hazards.md R351): every register as the launch sets it, RAM and cartridge kept. The
OPEN launch values are arguments, and the report is none, as at launch. Log entry 14. -/
def State.hostReset (s : State) (launchA launchX launchY : Byte) : State :=
  State.launch s.cart launchA launchX launchY s.ram

/-- Can a byte be put where a fetch at this address reads it? Work RAM, or program storage of an attached cartridge. -/
def State.holdsCode (s : State) (a : Addr) : Bool :=
  match regionOf a with
  | .workRam => true
  | .video => false
  | .unmapped => false
  | .cartridge => s.cart.isSome

/-- Put a byte where a fetch at this address reads it: an aid of `withFetchWord`, no operation of the hardware. Log
entry 13. -/
def State.placeByte (s : State) (a : Addr) (v : Byte) : State :=
  match regionOf a with
  | .workRam => { s with ram := s.ram.write (ramIndex a) v }
  | .video => s
  | .unmapped => s
  | .cartridge =>
    { s with cart := s.cart.map (fun c => { c with prg := c.prg.write (prgOffset c.size a) v }) }

/-- Where `withFetchWord` moves PC when no byte can be placed at the present one. Log entry 13. -/
def relocatedPc : Addr := 0x0200#16

/-- Place three code bytes at PC, with PC moved to `relocatedPc` first when one of the three addresses cannot hold code,
and the halted condition cleared, so that the next step runs them. Log entry 13. -/
def State.placeCode (s : State) (b0 b1 b2 : Byte) : State :=
  let fits := s.holdsCode s.pc && s.holdsCode (s.pc + 1#16) && s.holdsCode (s.pc + 2#16)
  let pc := if fits then s.pc else relocatedPc
  (({ s with pc := pc, halted := false }.placeByte pc b0).placeByte (pc + 1#16) b1).placeByte (pc + 2#16) b2

end Sys2Proof.Machine
end

