-- ==== Sys2Proof/Machine/Operands.lean ====
section
/-! DEFINITION. The addressing-mode resolvers (40_execution.md R105, R109, R111-R123) and the stages of one instruction
that all handlers share: PC advance, resolve, operate, cycle accounting (R101, R106, R107). An operand byte is the one
the decoder read; a resolver reads only pointer bytes (log entry 9). -/

namespace Sys2Proof.Machine

/-- What a resolver of a memory mode produces: `ctx.addr_abs` and the page-crossed signal (40_execution.md R105). -/
structure Resolved where
  /-- The absolute address. -/
  addr : Addr
  /-- The page-crossed signal. -/
  crossed : Bool
  deriving DecidableEq, Repr

/-- `(base + index) & 0xFFFF`, crossed when the high byte changed (40_execution.md R109, R118, R119, R123). -/
def indexed (base : Addr) (index : Byte) : Resolved :=
  let addr := base + zext16 index
  { addr := addr, crossed := highByte addr != highByte base }

/-- The 16-bit pointer at a zero-page byte, its high byte read at `(t + 1) & 0xFF` (40_execution.md R122, R123). -/
def State.zeroPagePointer (s : State) (t : Byte) : Addr :=
  assemble (s.read (zext16 (t + 1#8))) (s.read (zext16 t))

/-- The target of JMP (ptr): with a low pointer byte 0xFF the high byte is read from `ptr & 0xFF00`
(40_execution.md R121). -/
def State.indirectTarget (s : State) (ptr : Addr) : Addr :=
  let highAt := if lowByte ptr = 0xFF#8 then ptr &&& 0xFF00#16 else ptr + 1#16
  assemble (s.read highAt) (s.read ptr)

/-- The resolvers of the memory modes (40_execution.md R114-R119, R121-R123). -/
def State.resolve (s : State) (p : Place) : Resolved :=
  match p with
  | .zp b => { addr := zext16 b, crossed := false }
  | .zpx b => { addr := zext16 (b + s.x), crossed := false }
  | .zpy b => { addr := zext16 (b + s.y), crossed := false }
  | .abs a => { addr := a, crossed := false }
  | .abx a => indexed a s.x
  | .aby a => indexed a s.y
  | .ind ptr => { addr := s.indirectTarget ptr, crossed := false }
  | .izx b => { addr := s.zeroPagePointer (b + s.x), crossed := false }
  | .izy b => indexed (s.zeroPagePointer b) s.y

/-- What a handler leaves: the state, and its may-add-cycle signal (40_execution.md R106, R110). -/
abbrev Handled := State × Bool

/-- One more cycle when the page was crossed and the handler may add one (40_execution.md R107). -/
def bonus (crossed mayAdd : Bool) : Nat := (crossed && mayAdd).toNat

/-- An instruction in Implied mode: one byte, never a crossing (40_execution.md R111). -/
def runImplied (base : Nat) (handle : State → Handled) (s : State) : Result :=
  (handle (s.advance 1)).1.complete base

/-- An instruction in Immediate mode: two bytes, never a crossing (40_execution.md R113). -/
def runImmediate (base : Nat) (handle : Byte → State → Handled) (operand : Byte) (s : State) : Result :=
  (handle operand (s.advance 2)).1.complete base

/-- An instruction in a memory mode whose handler takes the resolved address (40_execution.md R101). -/
def runAddress (base : Nat) (handle : Addr → State → Handled) (place : Place) (s : State) : Result :=
  let ready := s.advance (Operand.mem place).length
  let target := ready.resolve place
  let done := handle target.addr ready
  done.1.complete (base + bonus target.crossed done.2)

/-- An instruction in a memory mode whose handler takes the byte of `fetch()` (40_execution.md R108). -/
def runRead (base : Nat) (handle : Byte → State → Handled) (place : Place) (s : State) : Result :=
  runAddress base (fun addr ready => handle (ready.read addr) ready) place s

/-- A branch (43_control_stack_flags.md R220): one more cycle when taken, and another when the target is in another page
than the byte after the branch. Log entry 22. -/
def runBranch (base : Nat) (condition : Status → Bool) (rel : Byte) (s : State) : Result :=
  let ready := s.advance 2
  let target := ready.pc + sext16 rel
  if condition ready.p then
    { ready with pc := target }.complete (base + 1 + (highByte target != highByte ready.pc).toNat)
  else ready.complete base

/-- The target of a shift or rotate: A in Accumulator mode, memory otherwise (42_arith_logic_shift.md R173). -/
inductive ShiftTarget where
  /-- Accumulator mode. -/
  | acc
  /-- The resolved address. -/
  | mem (addr : Addr)
  deriving DecidableEq, Repr

/-- `fetch()` of a shift: the copy of A, or the byte at the address (40_execution.md R108, R112). -/
def ShiftTarget.fetch (t : ShiftTarget) (s : State) : Byte :=
  match t with
  | .acc => s.a
  | .mem addr => s.read addr

/-- `writeBack(r)` (42_arith_logic_shift.md R173). -/
def ShiftTarget.writeBack (t : ShiftTarget) (r : Byte) (s : State) : State :=
  match t with
  | .acc => { s with a := r }
  | .mem addr => s.write addr r

end Sys2Proof.Machine
end

