-- ==== Sys2Proof/Machine/Arithmetic.lean ====
section
/-! DEFINITION. Arithmetic, logic, compare, increment and shift (42_arith_logic_shift.md R170-R192).
A `handle` definition is the handler of a mnemonic (40_execution.md R106); an `exec` definition is the meaning of one
constructor of `Instr`: its handler in its addressing mode with its base cycle count (30_encoding.md R84). -/

namespace Sys2Proof.Machine

/-- ADC (42_arith_logic_shift.md R174). -/
def handleAdc (m : Byte) (s : State) : Handled :=
  let r := addCore s.a m s.p
  ({ s with a := r.1, p := r.2 }, true)

/-- 0x61 ADC IZX (R174). -/
def execAdcIzx (zp : Byte) (s : State) : Result := runRead 6 handleAdc (.izx zp) s

/-- 0x65 ADC ZP (R174). -/
def execAdcZp (zp : Byte) (s : State) : Result := runRead 3 handleAdc (.zp zp) s

/-- 0x69 ADC IMM (R174). -/
def execAdcImm (imm : Byte) (s : State) : Result := runImmediate 2 handleAdc imm s

/-- 0x6D ADC ABS (R174). -/
def execAdcAbs (addr : Addr) (s : State) : Result := runRead 4 handleAdc (.abs addr) s

/-- 0x71 ADC IZY (R174). -/
def execAdcIzy (zp : Byte) (s : State) : Result := runRead 5 handleAdc (.izy zp) s

/-- 0x75 ADC ZPX (R174). -/
def execAdcZpx (zp : Byte) (s : State) : Result := runRead 4 handleAdc (.zpx zp) s

/-- 0x79 ADC ABY (R174). -/
def execAdcAby (addr : Addr) (s : State) : Result := runRead 4 handleAdc (.aby addr) s

/-- 0x7D ADC ABX (R174). -/
def execAdcAbx (addr : Addr) (s : State) : Result := runRead 4 handleAdc (.abx addr) s

/-- SBC: ADC with the operand bit-inverted (42_arith_logic_shift.md R175). -/
def handleSbc (m : Byte) (s : State) : Handled :=
  let r := addCore s.a (m ^^^ 0xFF#8) s.p
  ({ s with a := r.1, p := r.2 }, true)

/-- 0xE1 SBC IZX (R175). -/
def execSbcIzx (zp : Byte) (s : State) : Result := runRead 6 handleSbc (.izx zp) s

/-- 0xE5 SBC ZP (R175). -/
def execSbcZp (zp : Byte) (s : State) : Result := runRead 3 handleSbc (.zp zp) s

/-- 0xE9 SBC IMM (R175). -/
def execSbcImm (imm : Byte) (s : State) : Result := runImmediate 2 handleSbc imm s

/-- 0xED SBC ABS (R175). -/
def execSbcAbs (addr : Addr) (s : State) : Result := runRead 4 handleSbc (.abs addr) s

/-- 0xF1 SBC IZY (R175). -/
def execSbcIzy (zp : Byte) (s : State) : Result := runRead 5 handleSbc (.izy zp) s

/-- 0xF5 SBC ZPX (R175). -/
def execSbcZpx (zp : Byte) (s : State) : Result := runRead 4 handleSbc (.zpx zp) s

/-- 0xF9 SBC ABY (R175). -/
def execSbcAby (addr : Addr) (s : State) : Result := runRead 4 handleSbc (.aby addr) s

/-- 0xFD SBC ABX (R175). -/
def execSbcAbx (addr : Addr) (s : State) : Result := runRead 4 handleSbc (.abx addr) s

/-- AND (42_arith_logic_shift.md R176). -/
def handleAnd (m : Byte) (s : State) : Handled := ({ s with a := s.a &&& m }.setNZ (s.a &&& m), true)

/-- 0x21 AND IZX (R176). -/
def execAndIzx (zp : Byte) (s : State) : Result := runRead 6 handleAnd (.izx zp) s

/-- 0x25 AND ZP (R176). -/
def execAndZp (zp : Byte) (s : State) : Result := runRead 3 handleAnd (.zp zp) s

/-- 0x29 AND IMM (R176). -/
def execAndImm (imm : Byte) (s : State) : Result := runImmediate 2 handleAnd imm s

/-- 0x2D AND ABS (R176). -/
def execAndAbs (addr : Addr) (s : State) : Result := runRead 4 handleAnd (.abs addr) s

/-- 0x31 AND IZY (R176). -/
def execAndIzy (zp : Byte) (s : State) : Result := runRead 5 handleAnd (.izy zp) s

/-- 0x35 AND ZPX (R176). -/
def execAndZpx (zp : Byte) (s : State) : Result := runRead 4 handleAnd (.zpx zp) s

/-- 0x39 AND ABY (R176). -/
def execAndAby (addr : Addr) (s : State) : Result := runRead 4 handleAnd (.aby addr) s

/-- 0x3D AND ABX (R176). -/
def execAndAbx (addr : Addr) (s : State) : Result := runRead 4 handleAnd (.abx addr) s

/-- ORA (42_arith_logic_shift.md R177). -/
def handleOra (m : Byte) (s : State) : Handled := ({ s with a := s.a ||| m }.setNZ (s.a ||| m), true)

/-- 0x01 ORA IZX (R177). -/
def execOraIzx (zp : Byte) (s : State) : Result := runRead 6 handleOra (.izx zp) s

/-- 0x05 ORA ZP (R177). -/
def execOraZp (zp : Byte) (s : State) : Result := runRead 3 handleOra (.zp zp) s

/-- 0x09 ORA IMM (R177). -/
def execOraImm (imm : Byte) (s : State) : Result := runImmediate 2 handleOra imm s

/-- 0x0D ORA ABS (R177). -/
def execOraAbs (addr : Addr) (s : State) : Result := runRead 4 handleOra (.abs addr) s

/-- 0x11 ORA IZY (R177). -/
def execOraIzy (zp : Byte) (s : State) : Result := runRead 5 handleOra (.izy zp) s

/-- 0x15 ORA ZPX (R177). -/
def execOraZpx (zp : Byte) (s : State) : Result := runRead 4 handleOra (.zpx zp) s

/-- 0x19 ORA ABY (R177). -/
def execOraAby (addr : Addr) (s : State) : Result := runRead 4 handleOra (.aby addr) s

/-- 0x1D ORA ABX (R177). -/
def execOraAbx (addr : Addr) (s : State) : Result := runRead 4 handleOra (.abx addr) s

/-- EOR (42_arith_logic_shift.md R178). -/
def handleEor (m : Byte) (s : State) : Handled := ({ s with a := s.a ^^^ m }.setNZ (s.a ^^^ m), true)

/-- 0x41 EOR IZX (R178). -/
def execEorIzx (zp : Byte) (s : State) : Result := runRead 6 handleEor (.izx zp) s

/-- 0x45 EOR ZP (R178). -/
def execEorZp (zp : Byte) (s : State) : Result := runRead 3 handleEor (.zp zp) s

/-- 0x49 EOR IMM (R178). -/
def execEorImm (imm : Byte) (s : State) : Result := runImmediate 2 handleEor imm s

/-- 0x4D EOR ABS (R178). -/
def execEorAbs (addr : Addr) (s : State) : Result := runRead 4 handleEor (.abs addr) s

/-- 0x51 EOR IZY (R178). -/
def execEorIzy (zp : Byte) (s : State) : Result := runRead 5 handleEor (.izy zp) s

/-- 0x55 EOR ZPX (R178). -/
def execEorZpx (zp : Byte) (s : State) : Result := runRead 4 handleEor (.zpx zp) s

/-- 0x59 EOR ABY (R178). -/
def execEorAby (addr : Addr) (s : State) : Result := runRead 4 handleEor (.aby addr) s

/-- 0x5D EOR ABX (R178). -/
def execEorAbx (addr : Addr) (s : State) : Result := runRead 4 handleEor (.abx addr) s

/-- CMP (42_arith_logic_shift.md R179). -/
def handleCmp (m : Byte) (s : State) : Handled := ({ s with p := compareCore s.a m s.p }, true)

/-- 0xC1 CMP IZX (R179). -/
def execCmpIzx (zp : Byte) (s : State) : Result := runRead 6 handleCmp (.izx zp) s

/-- 0xC5 CMP ZP (R179). -/
def execCmpZp (zp : Byte) (s : State) : Result := runRead 3 handleCmp (.zp zp) s

/-- 0xC9 CMP IMM (R179). -/
def execCmpImm (imm : Byte) (s : State) : Result := runImmediate 2 handleCmp imm s

/-- 0xCD CMP ABS (R179). -/
def execCmpAbs (addr : Addr) (s : State) : Result := runRead 4 handleCmp (.abs addr) s

/-- 0xD1 CMP IZY (R179). -/
def execCmpIzy (zp : Byte) (s : State) : Result := runRead 5 handleCmp (.izy zp) s

/-- 0xD5 CMP ZPX (R179). -/
def execCmpZpx (zp : Byte) (s : State) : Result := runRead 4 handleCmp (.zpx zp) s

/-- 0xD9 CMP ABY (R179). -/
def execCmpAby (addr : Addr) (s : State) : Result := runRead 4 handleCmp (.aby addr) s

/-- 0xDD CMP ABX (R179). -/
def execCmpAbx (addr : Addr) (s : State) : Result := runRead 4 handleCmp (.abx addr) s

/-- CPX (42_arith_logic_shift.md R180). -/
def handleCpx (m : Byte) (s : State) : Handled := ({ s with p := compareCore s.x m s.p }, true)

/-- 0xE0 CPX IMM (R180). -/
def execCpxImm (imm : Byte) (s : State) : Result := runImmediate 2 handleCpx imm s

/-- 0xE4 CPX ZP (R180). -/
def execCpxZp (zp : Byte) (s : State) : Result := runRead 3 handleCpx (.zp zp) s

/-- 0xEC CPX ABS (R180). -/
def execCpxAbs (addr : Addr) (s : State) : Result := runRead 4 handleCpx (.abs addr) s

/-- CPY (42_arith_logic_shift.md R181). -/
def handleCpy (m : Byte) (s : State) : Handled := ({ s with p := compareCore s.y m s.p }, true)

/-- 0xC0 CPY IMM (R181). -/
def execCpyImm (imm : Byte) (s : State) : Result := runImmediate 2 handleCpy imm s

/-- 0xC4 CPY ZP (R181). -/
def execCpyZp (zp : Byte) (s : State) : Result := runRead 3 handleCpy (.zp zp) s

/-- 0xCC CPY ABS (R181). -/
def execCpyAbs (addr : Addr) (s : State) : Result := runRead 4 handleCpy (.abs addr) s

/-- BIT, with may_add = 0 (42_arith_logic_shift.md R182). -/
def handleBit (m : Byte) (s : State) : Handled := ({ s with p := bitTest s.a m s.p }, false)

/-- 0x24 BIT ZP (R182). -/
def execBitZp (zp : Byte) (s : State) : Result := runRead 3 handleBit (.zp zp) s

/-- 0x2C BIT ABS (R182). -/
def execBitAbs (addr : Addr) (s : State) : Result := runRead 4 handleBit (.abs addr) s

/-- INC: the flags are set from the result even where the write is ignored (42_arith_logic_shift.md R183). -/
def handleInc (addr : Addr) (s : State) : Handled :=
  let r := s.read addr + 1#8
  ((s.write addr r).setNZ r, false)

/-- 0xE6 INC ZP (R183). -/
def execIncZp (zp : Byte) (s : State) : Result := runAddress 5 handleInc (.zp zp) s

/-- 0xEE INC ABS (R183). -/
def execIncAbs (addr : Addr) (s : State) : Result := runAddress 6 handleInc (.abs addr) s

/-- 0xF6 INC ZPX (R183). -/
def execIncZpx (zp : Byte) (s : State) : Result := runAddress 6 handleInc (.zpx zp) s

/-- 0xFE INC ABX (R183). -/
def execIncAbx (addr : Addr) (s : State) : Result := runAddress 7 handleInc (.abx addr) s

/-- DEC: the flags are set from the result even where the write is ignored (42_arith_logic_shift.md R184). -/
def handleDec (addr : Addr) (s : State) : Handled :=
  let r := s.read addr - 1#8
  ((s.write addr r).setNZ r, false)

/-- 0xC6 DEC ZP (R184). -/
def execDecZp (zp : Byte) (s : State) : Result := runAddress 5 handleDec (.zp zp) s

/-- 0xCE DEC ABS (R184). -/
def execDecAbs (addr : Addr) (s : State) : Result := runAddress 6 handleDec (.abs addr) s

/-- 0xD6 DEC ZPX (R184). -/
def execDecZpx (zp : Byte) (s : State) : Result := runAddress 6 handleDec (.zpx zp) s

/-- 0xDE DEC ABX (R184). -/
def execDecAbx (addr : Addr) (s : State) : Result := runAddress 7 handleDec (.abx addr) s

/-- INX (42_arith_logic_shift.md R185). -/
def handleInx (s : State) : Handled := ({ s with x := s.x + 1#8 }.setNZ (s.x + 1#8), false)

/-- 0xE8 INX IMP (R185). -/
def execInx (s : State) : Result := runImplied 2 handleInx s

/-- INY (42_arith_logic_shift.md R186). -/
def handleIny (s : State) : Handled := ({ s with y := s.y + 1#8 }.setNZ (s.y + 1#8), false)

/-- 0xC8 INY IMP (R186). -/
def execIny (s : State) : Result := runImplied 2 handleIny s

/-- DEX (42_arith_logic_shift.md R187). -/
def handleDex (s : State) : Handled := ({ s with x := s.x - 1#8 }.setNZ (s.x - 1#8), false)

/-- 0xCA DEX IMP (R187). -/
def execDex (s : State) : Result := runImplied 2 handleDex s

/-- DEY (42_arith_logic_shift.md R188). -/
def handleDey (s : State) : Handled := ({ s with y := s.y - 1#8 }.setNZ (s.y - 1#8), false)

/-- 0x88 DEY IMP (R188). -/
def execDey (s : State) : Result := runImplied 2 handleDey s

/-- ASL on A or on memory (42_arith_logic_shift.md R189). -/
def handleAsl (t : ShiftTarget) (s : State) : Handled :=
  let r := aslCore (t.fetch s) s.p
  (t.writeBack r.1 { s with p := r.2 }, false)

/-- 0x06 ASL ZP (R189). -/
def execAslZp (zp : Byte) (s : State) : Result := runAddress 5 (fun target => handleAsl (.mem target)) (.zp zp) s

/-- 0x0A ASL ACC (R189). -/
def execAslAcc (s : State) : Result := runImplied 2 (handleAsl .acc) s

/-- 0x0E ASL ABS (R189). -/
def execAslAbs (addr : Addr) (s : State) : Result := runAddress 6 (fun target => handleAsl (.mem target)) (.abs addr) s

/-- 0x16 ASL ZPX (R189). -/
def execAslZpx (zp : Byte) (s : State) : Result := runAddress 6 (fun target => handleAsl (.mem target)) (.zpx zp) s

/-- 0x1E ASL ABX (R189). -/
def execAslAbx (addr : Addr) (s : State) : Result := runAddress 7 (fun target => handleAsl (.mem target)) (.abx addr) s

/-- LSR on A or on memory (42_arith_logic_shift.md R190). -/
def handleLsr (t : ShiftTarget) (s : State) : Handled :=
  let r := lsrCore (t.fetch s) s.p
  (t.writeBack r.1 { s with p := r.2 }, false)

/-- 0x46 LSR ZP (R190). -/
def execLsrZp (zp : Byte) (s : State) : Result := runAddress 5 (fun target => handleLsr (.mem target)) (.zp zp) s

/-- 0x4A LSR ACC (R190). -/
def execLsrAcc (s : State) : Result := runImplied 2 (handleLsr .acc) s

/-- 0x4E LSR ABS (R190). -/
def execLsrAbs (addr : Addr) (s : State) : Result := runAddress 6 (fun target => handleLsr (.mem target)) (.abs addr) s

/-- 0x56 LSR ZPX (R190). -/
def execLsrZpx (zp : Byte) (s : State) : Result := runAddress 6 (fun target => handleLsr (.mem target)) (.zpx zp) s

/-- 0x5E LSR ABX (R190). -/
def execLsrAbx (addr : Addr) (s : State) : Result := runAddress 7 (fun target => handleLsr (.mem target)) (.abx addr) s

/-- ROL on A or on memory (42_arith_logic_shift.md R191). -/
def handleRol (t : ShiftTarget) (s : State) : Handled :=
  let r := rolCore (t.fetch s) s.p
  (t.writeBack r.1 { s with p := r.2 }, false)

/-- 0x26 ROL ZP (R191). -/
def execRolZp (zp : Byte) (s : State) : Result := runAddress 5 (fun target => handleRol (.mem target)) (.zp zp) s

/-- 0x2A ROL ACC (R191). -/
def execRolAcc (s : State) : Result := runImplied 2 (handleRol .acc) s

/-- 0x2E ROL ABS (R191). -/
def execRolAbs (addr : Addr) (s : State) : Result := runAddress 6 (fun target => handleRol (.mem target)) (.abs addr) s

/-- 0x36 ROL ZPX (R191). -/
def execRolZpx (zp : Byte) (s : State) : Result := runAddress 6 (fun target => handleRol (.mem target)) (.zpx zp) s

/-- 0x3E ROL ABX (R191). -/
def execRolAbx (addr : Addr) (s : State) : Result := runAddress 7 (fun target => handleRol (.mem target)) (.abx addr) s

/-- ROR on A or on memory (42_arith_logic_shift.md R192). -/
def handleRor (t : ShiftTarget) (s : State) : Handled :=
  let r := rorCore (t.fetch s) s.p
  (t.writeBack r.1 { s with p := r.2 }, false)

/-- 0x66 ROR ZP (R192). -/
def execRorZp (zp : Byte) (s : State) : Result := runAddress 5 (fun target => handleRor (.mem target)) (.zp zp) s

/-- 0x6A ROR ACC (R192). -/
def execRorAcc (s : State) : Result := runImplied 2 (handleRor .acc) s

/-- 0x6E ROR ABS (R192). -/
def execRorAbs (addr : Addr) (s : State) : Result := runAddress 6 (fun target => handleRor (.mem target)) (.abs addr) s

/-- 0x76 ROR ZPX (R192). -/
def execRorZpx (zp : Byte) (s : State) : Result := runAddress 6 (fun target => handleRor (.mem target)) (.zpx zp) s

/-- 0x7E ROR ABX (R192). -/
def execRorAbx (addr : Addr) (s : State) : Result := runAddress 7 (fun target => handleRor (.mem target)) (.abx addr) s

end Sys2Proof.Machine
end

