-- ==== Sys2Proof/Machine/Control.lean ====
section
/-! DEFINITION. Branches, jumps, subroutines, BRK and RTI, stack and flag instructions, NOP (43_control_stack_flags.md R220-R245).
A `handle` definition is the handler of a mnemonic (40_execution.md R106); an `exec` definition is the meaning of one
constructor of `Instr`: its handler in its addressing mode with its base cycle count (30_encoding.md R84). -/

namespace Sys2Proof.Machine

/-- BCC: taken when C = 0 (43_control_stack_flags.md R221). -/
def takenBcc (p : Status) : Bool := !p.c

/-- 0x90 BCC REL (R221). -/
def execBccRel (rel : Byte) (s : State) : Result := runBranch 2 takenBcc rel s

/-- BCS: taken when C = 1 (43_control_stack_flags.md R222). -/
def takenBcs (p : Status) : Bool := p.c

/-- 0xB0 BCS REL (R222). -/
def execBcsRel (rel : Byte) (s : State) : Result := runBranch 2 takenBcs rel s

/-- BEQ: taken when Z = 1 (43_control_stack_flags.md R223). -/
def takenBeq (p : Status) : Bool := p.z

/-- 0xF0 BEQ REL (R223). -/
def execBeqRel (rel : Byte) (s : State) : Result := runBranch 2 takenBeq rel s

/-- BNE: taken when Z = 0 (43_control_stack_flags.md R224). -/
def takenBne (p : Status) : Bool := !p.z

/-- 0xD0 BNE REL (R224). -/
def execBneRel (rel : Byte) (s : State) : Result := runBranch 2 takenBne rel s

/-- BMI: taken when N = 1 (43_control_stack_flags.md R225). -/
def takenBmi (p : Status) : Bool := p.n

/-- 0x30 BMI REL (R225). -/
def execBmiRel (rel : Byte) (s : State) : Result := runBranch 2 takenBmi rel s

/-- BPL: taken when N = 0 (43_control_stack_flags.md R226). -/
def takenBpl (p : Status) : Bool := !p.n

/-- 0x10 BPL REL (R226). -/
def execBplRel (rel : Byte) (s : State) : Result := runBranch 2 takenBpl rel s

/-- BVC: taken when V = 0 (43_control_stack_flags.md R227). -/
def takenBvc (p : Status) : Bool := !p.v

/-- 0x50 BVC REL (R227). -/
def execBvcRel (rel : Byte) (s : State) : Result := runBranch 2 takenBvc rel s

/-- BVS: taken when V = 1 (43_control_stack_flags.md R228). -/
def takenBvs (p : Status) : Bool := p.v

/-- 0x70 BVS REL (R228). -/
def execBvsRel (rel : Byte) (s : State) : Result := runBranch 2 takenBvs rel s

/-- JMP: no byte is read at the target (43_control_stack_flags.md R229). -/
def handleJmp (addr : Addr) (s : State) : Handled := ({ s with pc := addr }, false)

/-- 0x4C JMP ABS (R229). -/
def execJmpAbs (addr : Addr) (s : State) : Result := runAddress 3 handleJmp (.abs addr) s

/-- 0x6C JMP IND (R229). -/
def execJmpInd (ptr : Addr) (s : State) : Result := runAddress 5 handleJmp (.ind ptr) s

/-- JSR: pushes the address of its own last byte, high byte first (43_control_stack_flags.md R230). -/
def handleJsr (addr : Addr) (s : State) : Handled := ({ s.pushAddr (s.pc - 1#16) with pc := addr }, false)

/-- 0x20 JSR ABS (R230). -/
def execJsrAbs (addr : Addr) (s : State) : Result := runAddress 6 handleJsr (.abs addr) s

/-- RTS: pops low, then high, and adds 1 (43_control_stack_flags.md R231). -/
def handleRts (s : State) : Handled :=
  let s1 := s.popped
  let s2 := s1.popped
  ({ s2 with pc := assemble s1.top s.top + 1#16 }, false)

/-- 0x60 RTS IMP (R231). -/
def execRts (s : State) : Result := runImplied 6 handleRts s

/-- BRK takes the trap (43_control_stack_flags.md R232; 60_exceptions.md R324). -/
def handleBrk (s : State) : Handled := (s.takeBreak, false)

/-- 0x00 BRK IMP (R232). -/
def execBrk (s : State) : Result := runImplied 7 handleBrk s

/-- RTI returns from the trap (43_control_stack_flags.md R233; 60_exceptions.md R326). -/
def handleRti (s : State) : Handled := (s.returnFromBreak, false)

/-- 0x40 RTI IMP (R233). -/
def execRti (s : State) : Result := runImplied 6 handleRti s

/-- PHA (43_control_stack_flags.md R234). -/
def handlePha (s : State) : Handled := (s.push s.a, false)

/-- 0x48 PHA IMP (R234). -/
def execPha (s : State) : Result := runImplied 3 handlePha s

/-- PHP: the copy has B and U set (43_control_stack_flags.md R235). -/
def handlePhp (s : State) : Handled := (s.push s.p.pushed, false)

/-- 0x08 PHP IMP (R235). -/
def execPhp (s : State) : Result := runImplied 3 handlePhp s

/-- PLA (43_control_stack_flags.md R236). -/
def handlePla (s : State) : Handled := ({ s.popped with a := s.top }.setNZ s.top, false)

/-- 0x68 PLA IMP (R236). -/
def execPla (s : State) : Result := runImplied 4 handlePla s

/-- PLP: B is forced to 0 and U to 1 (43_control_stack_flags.md R237). -/
def handlePlp (s : State) : Handled := ({ s.popped with p := Status.pulled s.top }, false)

/-- 0x28 PLP IMP (R237). -/
def execPlp (s : State) : Result := runImplied 4 handlePlp s

/-- CLC (43_control_stack_flags.md R238). -/
def handleClc (s : State) : Handled := ({ s with p := { s.p with c := false } }, false)

/-- 0x18 CLC IMP (R238). -/
def execClc (s : State) : Result := runImplied 2 handleClc s

/-- CLD (43_control_stack_flags.md R239). -/
def handleCld (s : State) : Handled := ({ s with p := { s.p with d := false } }, false)

/-- 0xD8 CLD IMP (R239). -/
def execCld (s : State) : Result := runImplied 2 handleCld s

/-- CLI (43_control_stack_flags.md R240). -/
def handleCli (s : State) : Handled := ({ s with p := { s.p with i := false } }, false)

/-- 0x58 CLI IMP (R240). -/
def execCli (s : State) : Result := runImplied 2 handleCli s

/-- CLV (43_control_stack_flags.md R241). -/
def handleClv (s : State) : Handled := ({ s with p := { s.p with v := false } }, false)

/-- 0xB8 CLV IMP (R241). -/
def execClv (s : State) : Result := runImplied 2 handleClv s

/-- SEC (43_control_stack_flags.md R242). -/
def handleSec (s : State) : Handled := ({ s with p := { s.p with c := true } }, false)

/-- 0x38 SEC IMP (R242). -/
def execSec (s : State) : Result := runImplied 2 handleSec s

/-- SED (43_control_stack_flags.md R243). -/
def handleSed (s : State) : Handled := ({ s with p := { s.p with d := true } }, false)

/-- 0xF8 SED IMP (R243). -/
def execSed (s : State) : Result := runImplied 2 handleSed s

/-- SEI (43_control_stack_flags.md R244). -/
def handleSei (s : State) : Handled := ({ s with p := { s.p with i := true } }, false)

/-- 0x78 SEI IMP (R244). -/
def execSei (s : State) : Result := runImplied 2 handleSei s

/-- NOP, with may_add = 1; an alias in a memory mode discards the byte it reads (43_control_stack_flags.md R245; 44_undocumented.md R292). -/
def handleNop (s : State) : Handled := (s, true)

/-- 0xEA NOP IMP (R245). -/
def execNop (s : State) : Result := runImplied 2 handleNop s

end Sys2Proof.Machine
end

