-- ==== Sys2Proof/Machine/LoadStore.lean ====
section
/-! DEFINITION. Loads, stores and register transfers (41_load_store_transfer.md R140-R152).
A `handle` definition is the handler of a mnemonic (40_execution.md R106); an `exec` definition is the meaning of one
constructor of `Instr`: its handler in its addressing mode with its base cycle count (30_encoding.md R84). -/

namespace Sys2Proof.Machine

/-- LDA, with may_add = 1 (41_load_store_transfer.md R141). -/
def handleLda (m : Byte) (s : State) : Handled := ({ s with a := m }.setNZ m, true)

/-- 0xA1 LDA IZX (R141). -/
def execLdaIzx (zp : Byte) (s : State) : Result := runRead 6 handleLda (.izx zp) s

/-- 0xA5 LDA ZP (R141). -/
def execLdaZp (zp : Byte) (s : State) : Result := runRead 3 handleLda (.zp zp) s

/-- 0xA9 LDA IMM (R141). -/
def execLdaImm (imm : Byte) (s : State) : Result := runImmediate 2 handleLda imm s

/-- 0xAD LDA ABS (R141). -/
def execLdaAbs (addr : Addr) (s : State) : Result := runRead 4 handleLda (.abs addr) s

/-- 0xB1 LDA IZY (R141). -/
def execLdaIzy (zp : Byte) (s : State) : Result := runRead 5 handleLda (.izy zp) s

/-- 0xB5 LDA ZPX (R141). -/
def execLdaZpx (zp : Byte) (s : State) : Result := runRead 4 handleLda (.zpx zp) s

/-- 0xB9 LDA ABY (R141). -/
def execLdaAby (addr : Addr) (s : State) : Result := runRead 4 handleLda (.aby addr) s

/-- 0xBD LDA ABX (R141). -/
def execLdaAbx (addr : Addr) (s : State) : Result := runRead 4 handleLda (.abx addr) s

/-- LDX, with may_add = 1 (41_load_store_transfer.md R142). -/
def handleLdx (m : Byte) (s : State) : Handled := ({ s with x := m }.setNZ m, true)

/-- 0xA2 LDX IMM (R142). -/
def execLdxImm (imm : Byte) (s : State) : Result := runImmediate 2 handleLdx imm s

/-- 0xA6 LDX ZP (R142). -/
def execLdxZp (zp : Byte) (s : State) : Result := runRead 3 handleLdx (.zp zp) s

/-- 0xAE LDX ABS (R142). -/
def execLdxAbs (addr : Addr) (s : State) : Result := runRead 4 handleLdx (.abs addr) s

/-- 0xB6 LDX ZPY (R142). -/
def execLdxZpy (zp : Byte) (s : State) : Result := runRead 4 handleLdx (.zpy zp) s

/-- 0xBE LDX ABY (R142). -/
def execLdxAby (addr : Addr) (s : State) : Result := runRead 4 handleLdx (.aby addr) s

/-- LDY, with may_add = 1 (41_load_store_transfer.md R143). -/
def handleLdy (m : Byte) (s : State) : Handled := ({ s with y := m }.setNZ m, true)

/-- 0xA0 LDY IMM (R143). -/
def execLdyImm (imm : Byte) (s : State) : Result := runImmediate 2 handleLdy imm s

/-- 0xA4 LDY ZP (R143). -/
def execLdyZp (zp : Byte) (s : State) : Result := runRead 3 handleLdy (.zp zp) s

/-- 0xAC LDY ABS (R143). -/
def execLdyAbs (addr : Addr) (s : State) : Result := runRead 4 handleLdy (.abs addr) s

/-- 0xB4 LDY ZPX (R143). -/
def execLdyZpx (zp : Byte) (s : State) : Result := runRead 4 handleLdy (.zpx zp) s

/-- 0xBC LDY ABX (R143). -/
def execLdyAbx (addr : Addr) (s : State) : Result := runRead 4 handleLdy (.abx addr) s

/-- STA: no read of the target, no flag (41_load_store_transfer.md R144). -/
def handleSta (addr : Addr) (s : State) : Handled := (s.write addr s.a, false)

/-- 0x81 STA IZX (R144). -/
def execStaIzx (zp : Byte) (s : State) : Result := runAddress 6 handleSta (.izx zp) s

/-- 0x85 STA ZP (R144). -/
def execStaZp (zp : Byte) (s : State) : Result := runAddress 3 handleSta (.zp zp) s

/-- 0x8D STA ABS (R144). -/
def execStaAbs (addr : Addr) (s : State) : Result := runAddress 4 handleSta (.abs addr) s

/-- 0x91 STA IZY (R144). -/
def execStaIzy (zp : Byte) (s : State) : Result := runAddress 6 handleSta (.izy zp) s

/-- 0x95 STA ZPX (R144). -/
def execStaZpx (zp : Byte) (s : State) : Result := runAddress 4 handleSta (.zpx zp) s

/-- 0x99 STA ABY (R144). -/
def execStaAby (addr : Addr) (s : State) : Result := runAddress 5 handleSta (.aby addr) s

/-- 0x9D STA ABX (R144). -/
def execStaAbx (addr : Addr) (s : State) : Result := runAddress 5 handleSta (.abx addr) s

/-- STX: no read of the target, no flag (41_load_store_transfer.md R145). -/
def handleStx (addr : Addr) (s : State) : Handled := (s.write addr s.x, false)

/-- 0x86 STX ZP (R145). -/
def execStxZp (zp : Byte) (s : State) : Result := runAddress 3 handleStx (.zp zp) s

/-- 0x8E STX ABS (R145). -/
def execStxAbs (addr : Addr) (s : State) : Result := runAddress 4 handleStx (.abs addr) s

/-- 0x96 STX ZPY (R145). -/
def execStxZpy (zp : Byte) (s : State) : Result := runAddress 4 handleStx (.zpy zp) s

/-- STY: no read of the target, no flag (41_load_store_transfer.md R146). -/
def handleSty (addr : Addr) (s : State) : Handled := (s.write addr s.y, false)

/-- 0x84 STY ZP (R146). -/
def execStyZp (zp : Byte) (s : State) : Result := runAddress 3 handleSty (.zp zp) s

/-- 0x8C STY ABS (R146). -/
def execStyAbs (addr : Addr) (s : State) : Result := runAddress 4 handleSty (.abs addr) s

/-- 0x94 STY ZPX (R146). -/
def execStyZpx (zp : Byte) (s : State) : Result := runAddress 4 handleSty (.zpx zp) s

/-- TAX (41_load_store_transfer.md R147). -/
def handleTax (s : State) : Handled := ({ s with x := s.a }.setNZ s.a, false)

/-- 0xAA TAX IMP (R147). -/
def execTax (s : State) : Result := runImplied 2 handleTax s

/-- TAY (41_load_store_transfer.md R148). -/
def handleTay (s : State) : Handled := ({ s with y := s.a }.setNZ s.a, false)

/-- 0xA8 TAY IMP (R148). -/
def execTay (s : State) : Result := runImplied 2 handleTay s

/-- TXA (41_load_store_transfer.md R149). -/
def handleTxa (s : State) : Handled := ({ s with a := s.x }.setNZ s.x, false)

/-- 0x8A TXA IMP (R149). -/
def execTxa (s : State) : Result := runImplied 2 handleTxa s

/-- TYA (41_load_store_transfer.md R150). -/
def handleTya (s : State) : Handled := ({ s with a := s.y }.setNZ s.y, false)

/-- 0x98 TYA IMP (R150). -/
def execTya (s : State) : Result := runImplied 2 handleTya s

/-- TSX (41_load_store_transfer.md R151). -/
def handleTsx (s : State) : Handled := ({ s with x := s.sp }.setNZ s.sp, false)

/-- 0xBA TSX IMP (R151). -/
def execTsx (s : State) : Result := runImplied 2 handleTsx s

/-- TXS, the one transfer that updates no flag (41_load_store_transfer.md R152). -/
def handleTxs (s : State) : Handled := ({ s with sp := s.x }, false)

/-- 0x9A TXS IMP (R152). -/
def execTxs (s : State) : Result := runImplied 2 handleTxs s

end Sys2Proof.Machine
end

