-- ==== Sys2Proof/Machine/Undocumented.lean ====
section
/-! DEFINITION. The undocumented opcodes, the NOP aliases, USBC and JAM (44_undocumented.md R270-R293).
A `handle` definition is the handler of a mnemonic (40_execution.md R106); an `exec` definition is the meaning of one
constructor of `Instr`: its handler in its addressing mode with its base cycle count (30_encoding.md R84). -/

namespace Sys2Proof.Machine

/-- `H`, the high byte of the base address that the index was added to (44_undocumented.md R285). -/
def baseHigh (index : Byte) (addr : Addr) : Byte := highByte (addr - zext16 index)

/-- `w`, the byte that SHA, SHX, SHY and TAS store: `v AND ((H + 1) & 0xFF)` (44_undocumented.md R285). -/
def highAndByte (index v : Byte) (addr : Addr) : Byte := v &&& (baseHigh index addr + 1#8)

/-- Where they store: the resolved address, or, when the index crossed a page, `w ++ addr[7:0]`
(44_undocumented.md R285). Log entry 16. -/
def highAndAddr (index v : Byte) (addr : Addr) : Addr :=
  if highByte addr != baseHigh index addr then assemble (highAndByte index v addr) (lowByte addr) else addr

/-- `shStore(v)` (44_undocumented.md R285). -/
def State.highAndStore (s : State) (index v : Byte) (addr : Addr) : State :=
  s.write (highAndAddr index v addr) (highAndByte index v addr)

/-- SLO: ASL on the target, then ORA (44_undocumented.md R271). -/
def handleSlo (addr : Addr) (s : State) : Handled :=
  let r := aslCore (s.read addr) s.p
  let stored := { s with p := r.2 }.write addr r.1
  ({ stored with a := stored.a ||| r.1 }.setNZ (stored.a ||| r.1), false)

/-- 0x03 SLO IZX (R271). -/
def execSloIzx (zp : Byte) (s : State) : Result := runAddress 8 handleSlo (.izx zp) s

/-- 0x07 SLO ZP (R271). -/
def execSloZp (zp : Byte) (s : State) : Result := runAddress 5 handleSlo (.zp zp) s

/-- 0x0F SLO ABS (R271). -/
def execSloAbs (addr : Addr) (s : State) : Result := runAddress 6 handleSlo (.abs addr) s

/-- 0x13 SLO IZY (R271). -/
def execSloIzy (zp : Byte) (s : State) : Result := runAddress 8 handleSlo (.izy zp) s

/-- 0x17 SLO ZPX (R271). -/
def execSloZpx (zp : Byte) (s : State) : Result := runAddress 6 handleSlo (.zpx zp) s

/-- 0x1B SLO ABY (R271). -/
def execSloAby (addr : Addr) (s : State) : Result := runAddress 7 handleSlo (.aby addr) s

/-- 0x1F SLO ABX (R271). -/
def execSloAbx (addr : Addr) (s : State) : Result := runAddress 7 handleSlo (.abx addr) s

/-- RLA: ROL on the target, then AND (44_undocumented.md R272). -/
def handleRla (addr : Addr) (s : State) : Handled :=
  let r := rolCore (s.read addr) s.p
  let stored := { s with p := r.2 }.write addr r.1
  ({ stored with a := stored.a &&& r.1 }.setNZ (stored.a &&& r.1), false)

/-- 0x23 RLA IZX (R272). -/
def execRlaIzx (zp : Byte) (s : State) : Result := runAddress 8 handleRla (.izx zp) s

/-- 0x27 RLA ZP (R272). -/
def execRlaZp (zp : Byte) (s : State) : Result := runAddress 5 handleRla (.zp zp) s

/-- 0x2F RLA ABS (R272). -/
def execRlaAbs (addr : Addr) (s : State) : Result := runAddress 6 handleRla (.abs addr) s

/-- 0x33 RLA IZY (R272). -/
def execRlaIzy (zp : Byte) (s : State) : Result := runAddress 8 handleRla (.izy zp) s

/-- 0x37 RLA ZPX (R272). -/
def execRlaZpx (zp : Byte) (s : State) : Result := runAddress 6 handleRla (.zpx zp) s

/-- 0x3B RLA ABY (R272). -/
def execRlaAby (addr : Addr) (s : State) : Result := runAddress 7 handleRla (.aby addr) s

/-- 0x3F RLA ABX (R272). -/
def execRlaAbx (addr : Addr) (s : State) : Result := runAddress 7 handleRla (.abx addr) s

/-- SRE: LSR on the target, then EOR (44_undocumented.md R273). -/
def handleSre (addr : Addr) (s : State) : Handled :=
  let r := lsrCore (s.read addr) s.p
  let stored := { s with p := r.2 }.write addr r.1
  ({ stored with a := stored.a ^^^ r.1 }.setNZ (stored.a ^^^ r.1), false)

/-- 0x43 SRE IZX (R273). -/
def execSreIzx (zp : Byte) (s : State) : Result := runAddress 8 handleSre (.izx zp) s

/-- 0x47 SRE ZP (R273). -/
def execSreZp (zp : Byte) (s : State) : Result := runAddress 5 handleSre (.zp zp) s

/-- 0x4F SRE ABS (R273). -/
def execSreAbs (addr : Addr) (s : State) : Result := runAddress 6 handleSre (.abs addr) s

/-- 0x53 SRE IZY (R273). -/
def execSreIzy (zp : Byte) (s : State) : Result := runAddress 8 handleSre (.izy zp) s

/-- 0x57 SRE ZPX (R273). -/
def execSreZpx (zp : Byte) (s : State) : Result := runAddress 6 handleSre (.zpx zp) s

/-- 0x5B SRE ABY (R273). -/
def execSreAby (addr : Addr) (s : State) : Result := runAddress 7 handleSre (.aby addr) s

/-- 0x5F SRE ABX (R273). -/
def execSreAbx (addr : Addr) (s : State) : Result := runAddress 7 handleSre (.abx addr) s

/-- RRA: ROR on the target, then ADC with the carry the rotate wrote (44_undocumented.md R274). -/
def handleRra (addr : Addr) (s : State) : Handled :=
  let r := rorCore (s.read addr) s.p
  let stored := { s with p := r.2 }.write addr r.1
  let sum := addCore stored.a r.1 stored.p
  ({ stored with a := sum.1, p := sum.2 }, false)

/-- 0x63 RRA IZX (R274). -/
def execRraIzx (zp : Byte) (s : State) : Result := runAddress 8 handleRra (.izx zp) s

/-- 0x67 RRA ZP (R274). -/
def execRraZp (zp : Byte) (s : State) : Result := runAddress 5 handleRra (.zp zp) s

/-- 0x6F RRA ABS (R274). -/
def execRraAbs (addr : Addr) (s : State) : Result := runAddress 6 handleRra (.abs addr) s

/-- 0x73 RRA IZY (R274). -/
def execRraIzy (zp : Byte) (s : State) : Result := runAddress 8 handleRra (.izy zp) s

/-- 0x77 RRA ZPX (R274). -/
def execRraZpx (zp : Byte) (s : State) : Result := runAddress 6 handleRra (.zpx zp) s

/-- 0x7B RRA ABY (R274). -/
def execRraAby (addr : Addr) (s : State) : Result := runAddress 7 handleRra (.aby addr) s

/-- 0x7F RRA ABX (R274). -/
def execRraAbx (addr : Addr) (s : State) : Result := runAddress 7 handleRra (.abx addr) s

/-- DCP: DEC on the target, then CMP (44_undocumented.md R275). -/
def handleDcp (addr : Addr) (s : State) : Handled :=
  let r := s.read addr - 1#8
  let stored := s.write addr r
  ({ stored with p := compareCore stored.a r stored.p }, false)

/-- 0xC3 DCP IZX (R275). -/
def execDcpIzx (zp : Byte) (s : State) : Result := runAddress 8 handleDcp (.izx zp) s

/-- 0xC7 DCP ZP (R275). -/
def execDcpZp (zp : Byte) (s : State) : Result := runAddress 5 handleDcp (.zp zp) s

/-- 0xCF DCP ABS (R275). -/
def execDcpAbs (addr : Addr) (s : State) : Result := runAddress 6 handleDcp (.abs addr) s

/-- 0xD3 DCP IZY (R275). -/
def execDcpIzy (zp : Byte) (s : State) : Result := runAddress 8 handleDcp (.izy zp) s

/-- 0xD7 DCP ZPX (R275). -/
def execDcpZpx (zp : Byte) (s : State) : Result := runAddress 6 handleDcp (.zpx zp) s

/-- 0xDB DCP ABY (R275). -/
def execDcpAby (addr : Addr) (s : State) : Result := runAddress 7 handleDcp (.aby addr) s

/-- 0xDF DCP ABX (R275). -/
def execDcpAbx (addr : Addr) (s : State) : Result := runAddress 7 handleDcp (.abx addr) s

/-- ISC: INC on the target, then SBC (44_undocumented.md R276). -/
def handleIsc (addr : Addr) (s : State) : Handled :=
  let r := s.read addr + 1#8
  let stored := s.write addr r
  let sum := addCore stored.a (r ^^^ 0xFF#8) stored.p
  ({ stored with a := sum.1, p := sum.2 }, false)

/-- 0xE3 ISC IZX (R276). -/
def execIscIzx (zp : Byte) (s : State) : Result := runAddress 8 handleIsc (.izx zp) s

/-- 0xE7 ISC ZP (R276). -/
def execIscZp (zp : Byte) (s : State) : Result := runAddress 5 handleIsc (.zp zp) s

/-- 0xEF ISC ABS (R276). -/
def execIscAbs (addr : Addr) (s : State) : Result := runAddress 6 handleIsc (.abs addr) s

/-- 0xF3 ISC IZY (R276). -/
def execIscIzy (zp : Byte) (s : State) : Result := runAddress 8 handleIsc (.izy zp) s

/-- 0xF7 ISC ZPX (R276). -/
def execIscZpx (zp : Byte) (s : State) : Result := runAddress 6 handleIsc (.zpx zp) s

/-- 0xFB ISC ABY (R276). -/
def execIscAby (addr : Addr) (s : State) : Result := runAddress 7 handleIsc (.aby addr) s

/-- 0xFF ISC ABX (R276). -/
def execIscAbx (addr : Addr) (s : State) : Result := runAddress 7 handleIsc (.abx addr) s

/-- LAX, with may_add = 1 (44_undocumented.md R277). -/
def handleLax (m : Byte) (s : State) : Handled := ({ s with a := m, x := m }.setNZ m, true)

/-- 0xA3 LAX IZX (R277). -/
def execLaxIzx (zp : Byte) (s : State) : Result := runRead 6 handleLax (.izx zp) s

/-- 0xA7 LAX ZP (R277). -/
def execLaxZp (zp : Byte) (s : State) : Result := runRead 3 handleLax (.zp zp) s

/-- 0xAF LAX ABS (R277). -/
def execLaxAbs (addr : Addr) (s : State) : Result := runRead 4 handleLax (.abs addr) s

/-- 0xB3 LAX IZY (R277). -/
def execLaxIzy (zp : Byte) (s : State) : Result := runRead 5 handleLax (.izy zp) s

/-- 0xB7 LAX ZPY (R277). -/
def execLaxZpy (zp : Byte) (s : State) : Result := runRead 4 handleLax (.zpy zp) s

/-- 0xBF LAX ABY (R277). -/
def execLaxAby (addr : Addr) (s : State) : Result := runRead 4 handleLax (.aby addr) s

/-- SAX: no read of the target, no flag (44_undocumented.md R278). -/
def handleSax (addr : Addr) (s : State) : Handled := (s.write addr (s.a &&& s.x), false)

/-- 0x83 SAX IZX (R278). -/
def execSaxIzx (zp : Byte) (s : State) : Result := runAddress 6 handleSax (.izx zp) s

/-- 0x87 SAX ZP (R278). -/
def execSaxZp (zp : Byte) (s : State) : Result := runAddress 3 handleSax (.zp zp) s

/-- 0x8F SAX ABS (R278). -/
def execSaxAbs (addr : Addr) (s : State) : Result := runAddress 4 handleSax (.abs addr) s

/-- 0x97 SAX ZPY (R278). -/
def execSaxZpy (zp : Byte) (s : State) : Result := runAddress 4 handleSax (.zpy zp) s

/-- ANC (44_undocumented.md R279). -/
def handleAnc (m : Byte) (s : State) : Handled :=
  let r := ancCore s.a m s.p
  ({ s with a := r.1, p := r.2 }, false)

/-- 0x0B, 0x2B ANC IMM (R279). -/
def execAncImm (_code : AncOpcode) (imm : Byte) (s : State) : Result := runImmediate 2 handleAnc imm s

/-- ALR (44_undocumented.md R280). -/
def handleAlr (m : Byte) (s : State) : Handled :=
  let r := alrCore s.a m s.p
  ({ s with a := r.1, p := r.2 }, false)

/-- 0x4B ALR IMM (R280). -/
def execAlrImm (imm : Byte) (s : State) : Result := runImmediate 2 handleAlr imm s

/-- ARR (44_undocumented.md R281). -/
def handleArr (m : Byte) (s : State) : Handled :=
  let r := arrCore s.a m s.p
  ({ s with a := r.1, p := r.2 }, false)

/-- 0x6B ARR IMM (R281). -/
def execArrImm (imm : Byte) (s : State) : Result := runImmediate 2 handleArr imm s

/-- SBX (44_undocumented.md R282). -/
def handleSbx (m : Byte) (s : State) : Handled :=
  let r := sbxCore s.a s.x m s.p
  ({ s with x := r.1, p := r.2 }, false)

/-- 0xCB SBX IMM (R282). -/
def execSbxImm (imm : Byte) (s : State) : Result := runImmediate 2 handleSbx imm s

/-- ANE, with the OPEN constant (44_undocumented.md R283). Log entry 8. -/
def handleAne (m : Byte) (s : State) : Handled :=
  let v := (s.a ||| Config.aneConst) &&& s.x &&& m
  ({ s with a := v }.setNZ v, false)

/-- 0x8B ANE IMM (R283). -/
def execAneImm (imm : Byte) (s : State) : Result := runImmediate 2 handleAne imm s

/-- LXA, with the OPEN constant (44_undocumented.md R284). Log entry 8. -/
def handleLxa (m : Byte) (s : State) : Handled :=
  let v := (s.a ||| Config.lxaConst) &&& m
  ({ s with a := v, x := v }.setNZ v, false)

/-- 0xAB LXA IMM (R284). -/
def execLxaImm (imm : Byte) (s : State) : Result := runImmediate 2 handleLxa imm s

/-- SHA: the mode adds Y (44_undocumented.md R286). -/
def handleSha (addr : Addr) (s : State) : Handled := (s.highAndStore s.y (s.a &&& s.x) addr, false)

/-- 0x93 SHA IZY (R286). -/
def execShaIzy (zp : Byte) (s : State) : Result := runAddress 6 handleSha (.izy zp) s

/-- 0x9F SHA ABY (R286). -/
def execShaAby (addr : Addr) (s : State) : Result := runAddress 5 handleSha (.aby addr) s

/-- SHX: the mode adds Y (44_undocumented.md R287). -/
def handleShx (addr : Addr) (s : State) : Handled := (s.highAndStore s.y s.x addr, false)

/-- 0x9E SHX ABY (R287). -/
def execShxAby (addr : Addr) (s : State) : Result := runAddress 5 handleShx (.aby addr) s

/-- SHY: the mode adds X (44_undocumented.md R288). -/
def handleShy (addr : Addr) (s : State) : Handled := (s.highAndStore s.x s.y addr, false)

/-- 0x9C SHY ABX (R288). -/
def execShyAbx (addr : Addr) (s : State) : Result := runAddress 5 handleShy (.abx addr) s

/-- TAS: SP is written before the store (44_undocumented.md R289; 70_reset_and_hazards.md R356). -/
def handleTas (addr : Addr) (s : State) : Handled :=
  let t := { s with sp := s.a &&& s.x }
  (t.highAndStore t.y t.sp addr, false)

/-- 0x9B TAS ABY (R289). -/
def execTasAby (addr : Addr) (s : State) : Result := runAddress 5 handleTas (.aby addr) s

/-- LAS, with may_add = 1 (44_undocumented.md R290). -/
def handleLas (m : Byte) (s : State) : Handled :=
  let v := m &&& s.sp
  ({ s with a := v, x := v, sp := v }.setNZ v, true)

/-- 0xBB LAS ABY (R290). -/
def execLasAby (addr : Addr) (s : State) : Result := runRead 4 handleLas (.aby addr) s

/-- JAM: only `halted` changes; PC stays at the address after the JAM (44_undocumented.md R293; 60_exceptions.md R320). -/
def handleJam (s : State) : Handled := ({ s with halted := true }, false)

/-- 0x02, 0x12, 0x22, 0x32, 0x42, 0x52, 0x62, 0x72, 0x92, 0xB2, 0xD2, 0xF2 JAM IMP (R293). -/
def execJam (_code : JamOpcode) (s : State) : Result := runImplied 0 handleJam s

/-- 0x04, 0x44, 0x64 NOP ZP (R292). -/
def execNopZp (_code : NopZpOpcode) (zp : Byte) (s : State) : Result := runRead 3 (fun _ => handleNop) (.zp zp) s

/-- 0x0C NOP ABS (R292). -/
def execNopAbs (addr : Addr) (s : State) : Result := runRead 4 (fun _ => handleNop) (.abs addr) s

/-- 0x14, 0x34, 0x54, 0x74, 0xD4, 0xF4 NOP ZPX (R292). -/
def execNopZpx (_code : NopZpxOpcode) (zp : Byte) (s : State) : Result := runRead 4 (fun _ => handleNop) (.zpx zp) s

/-- 0x1A, 0x3A, 0x5A, 0x7A, 0xDA, 0xFA NOP IMP (R292). -/
def execNopImp (_code : NopImpOpcode) (s : State) : Result := runImplied 2 handleNop s

/-- 0x1C, 0x3C, 0x5C, 0x7C, 0xDC, 0xFC NOP ABX (R292). -/
def execNopAbx (_code : NopAbxOpcode) (addr : Addr) (s : State) : Result := runRead 4 (fun _ => handleNop) (.abx addr) s

/-- 0x80, 0x82, 0x89, 0xC2, 0xE2 NOP IMM (R292). -/
def execNopImm (_code : NopImmOpcode) (imm : Byte) (s : State) : Result := runImmediate 2 (fun _ => handleNop) imm s

/-- 0xEB SBC IMM (R291). -/
def execUsbcImm (imm : Byte) (s : State) : Result := runImmediate 2 handleSbc imm s

end Sys2Proof.Machine
end

