-- ==== Sys2Proof/Machine/Dispatch.lean ====
section
/-! DEFINITION. One arm per constructor of `Instr`, in opcode order: the meaning of the instruction. -/

namespace Sys2Proof.Machine

/-- The whole effect of one instruction from the state before its opcode fetch: PC advance, operand resolution, the
handler and the cycle count (40_execution.md R101, R124). Log entry 12. -/
def exec (i : Instr) (s : State) : Host.Outcome State Fault Refusal :=
  match i with
  | .brk => Sys2Proof.Machine.execBrk s
  | .oraIzx zp => Sys2Proof.Machine.execOraIzx zp s
  | .jam code => Sys2Proof.Machine.execJam code s
  | .sloIzx zp => Sys2Proof.Machine.execSloIzx zp s
  | .nopZp code zp => Sys2Proof.Machine.execNopZp code zp s
  | .oraZp zp => Sys2Proof.Machine.execOraZp zp s
  | .aslZp zp => Sys2Proof.Machine.execAslZp zp s
  | .sloZp zp => Sys2Proof.Machine.execSloZp zp s
  | .php => Sys2Proof.Machine.execPhp s
  | .oraImm imm => Sys2Proof.Machine.execOraImm imm s
  | .aslAcc => Sys2Proof.Machine.execAslAcc s
  | .ancImm code imm => Sys2Proof.Machine.execAncImm code imm s
  | .nopAbs addr => Sys2Proof.Machine.execNopAbs addr s
  | .oraAbs addr => Sys2Proof.Machine.execOraAbs addr s
  | .aslAbs addr => Sys2Proof.Machine.execAslAbs addr s
  | .sloAbs addr => Sys2Proof.Machine.execSloAbs addr s
  | .bplRel rel => Sys2Proof.Machine.execBplRel rel s
  | .oraIzy zp => Sys2Proof.Machine.execOraIzy zp s
  | .sloIzy zp => Sys2Proof.Machine.execSloIzy zp s
  | .nopZpx code zp => Sys2Proof.Machine.execNopZpx code zp s
  | .oraZpx zp => Sys2Proof.Machine.execOraZpx zp s
  | .aslZpx zp => Sys2Proof.Machine.execAslZpx zp s
  | .sloZpx zp => Sys2Proof.Machine.execSloZpx zp s
  | .clc => Sys2Proof.Machine.execClc s
  | .oraAby addr => Sys2Proof.Machine.execOraAby addr s
  | .nopImp code => Sys2Proof.Machine.execNopImp code s
  | .sloAby addr => Sys2Proof.Machine.execSloAby addr s
  | .nopAbx code addr => Sys2Proof.Machine.execNopAbx code addr s
  | .oraAbx addr => Sys2Proof.Machine.execOraAbx addr s
  | .aslAbx addr => Sys2Proof.Machine.execAslAbx addr s
  | .sloAbx addr => Sys2Proof.Machine.execSloAbx addr s
  | .jsrAbs addr => Sys2Proof.Machine.execJsrAbs addr s
  | .andIzx zp => Sys2Proof.Machine.execAndIzx zp s
  | .rlaIzx zp => Sys2Proof.Machine.execRlaIzx zp s
  | .bitZp zp => Sys2Proof.Machine.execBitZp zp s
  | .andZp zp => Sys2Proof.Machine.execAndZp zp s
  | .rolZp zp => Sys2Proof.Machine.execRolZp zp s
  | .rlaZp zp => Sys2Proof.Machine.execRlaZp zp s
  | .plp => Sys2Proof.Machine.execPlp s
  | .andImm imm => Sys2Proof.Machine.execAndImm imm s
  | .rolAcc => Sys2Proof.Machine.execRolAcc s
  | .bitAbs addr => Sys2Proof.Machine.execBitAbs addr s
  | .andAbs addr => Sys2Proof.Machine.execAndAbs addr s
  | .rolAbs addr => Sys2Proof.Machine.execRolAbs addr s
  | .rlaAbs addr => Sys2Proof.Machine.execRlaAbs addr s
  | .bmiRel rel => Sys2Proof.Machine.execBmiRel rel s
  | .andIzy zp => Sys2Proof.Machine.execAndIzy zp s
  | .rlaIzy zp => Sys2Proof.Machine.execRlaIzy zp s
  | .andZpx zp => Sys2Proof.Machine.execAndZpx zp s
  | .rolZpx zp => Sys2Proof.Machine.execRolZpx zp s
  | .rlaZpx zp => Sys2Proof.Machine.execRlaZpx zp s
  | .sec => Sys2Proof.Machine.execSec s
  | .andAby addr => Sys2Proof.Machine.execAndAby addr s
  | .rlaAby addr => Sys2Proof.Machine.execRlaAby addr s
  | .andAbx addr => Sys2Proof.Machine.execAndAbx addr s
  | .rolAbx addr => Sys2Proof.Machine.execRolAbx addr s
  | .rlaAbx addr => Sys2Proof.Machine.execRlaAbx addr s
  | .rti => Sys2Proof.Machine.execRti s
  | .eorIzx zp => Sys2Proof.Machine.execEorIzx zp s
  | .sreIzx zp => Sys2Proof.Machine.execSreIzx zp s
  | .eorZp zp => Sys2Proof.Machine.execEorZp zp s
  | .lsrZp zp => Sys2Proof.Machine.execLsrZp zp s
  | .sreZp zp => Sys2Proof.Machine.execSreZp zp s
  | .pha => Sys2Proof.Machine.execPha s
  | .eorImm imm => Sys2Proof.Machine.execEorImm imm s
  | .lsrAcc => Sys2Proof.Machine.execLsrAcc s
  | .alrImm imm => Sys2Proof.Machine.execAlrImm imm s
  | .jmpAbs addr => Sys2Proof.Machine.execJmpAbs addr s
  | .eorAbs addr => Sys2Proof.Machine.execEorAbs addr s
  | .lsrAbs addr => Sys2Proof.Machine.execLsrAbs addr s
  | .sreAbs addr => Sys2Proof.Machine.execSreAbs addr s
  | .bvcRel rel => Sys2Proof.Machine.execBvcRel rel s
  | .eorIzy zp => Sys2Proof.Machine.execEorIzy zp s
  | .sreIzy zp => Sys2Proof.Machine.execSreIzy zp s
  | .eorZpx zp => Sys2Proof.Machine.execEorZpx zp s
  | .lsrZpx zp => Sys2Proof.Machine.execLsrZpx zp s
  | .sreZpx zp => Sys2Proof.Machine.execSreZpx zp s
  | .cli => Sys2Proof.Machine.execCli s
  | .eorAby addr => Sys2Proof.Machine.execEorAby addr s
  | .sreAby addr => Sys2Proof.Machine.execSreAby addr s
  | .eorAbx addr => Sys2Proof.Machine.execEorAbx addr s
  | .lsrAbx addr => Sys2Proof.Machine.execLsrAbx addr s
  | .sreAbx addr => Sys2Proof.Machine.execSreAbx addr s
  | .rts => Sys2Proof.Machine.execRts s
  | .adcIzx zp => Sys2Proof.Machine.execAdcIzx zp s
  | .rraIzx zp => Sys2Proof.Machine.execRraIzx zp s
  | .adcZp zp => Sys2Proof.Machine.execAdcZp zp s
  | .rorZp zp => Sys2Proof.Machine.execRorZp zp s
  | .rraZp zp => Sys2Proof.Machine.execRraZp zp s
  | .pla => Sys2Proof.Machine.execPla s
  | .adcImm imm => Sys2Proof.Machine.execAdcImm imm s
  | .rorAcc => Sys2Proof.Machine.execRorAcc s
  | .arrImm imm => Sys2Proof.Machine.execArrImm imm s
  | .jmpInd ptr => Sys2Proof.Machine.execJmpInd ptr s
  | .adcAbs addr => Sys2Proof.Machine.execAdcAbs addr s
  | .rorAbs addr => Sys2Proof.Machine.execRorAbs addr s
  | .rraAbs addr => Sys2Proof.Machine.execRraAbs addr s
  | .bvsRel rel => Sys2Proof.Machine.execBvsRel rel s
  | .adcIzy zp => Sys2Proof.Machine.execAdcIzy zp s
  | .rraIzy zp => Sys2Proof.Machine.execRraIzy zp s
  | .adcZpx zp => Sys2Proof.Machine.execAdcZpx zp s
  | .rorZpx zp => Sys2Proof.Machine.execRorZpx zp s
  | .rraZpx zp => Sys2Proof.Machine.execRraZpx zp s
  | .sei => Sys2Proof.Machine.execSei s
  | .adcAby addr => Sys2Proof.Machine.execAdcAby addr s
  | .rraAby addr => Sys2Proof.Machine.execRraAby addr s
  | .adcAbx addr => Sys2Proof.Machine.execAdcAbx addr s
  | .rorAbx addr => Sys2Proof.Machine.execRorAbx addr s
  | .rraAbx addr => Sys2Proof.Machine.execRraAbx addr s
  | .nopImm code imm => Sys2Proof.Machine.execNopImm code imm s
  | .staIzx zp => Sys2Proof.Machine.execStaIzx zp s
  | .saxIzx zp => Sys2Proof.Machine.execSaxIzx zp s
  | .styZp zp => Sys2Proof.Machine.execStyZp zp s
  | .staZp zp => Sys2Proof.Machine.execStaZp zp s
  | .stxZp zp => Sys2Proof.Machine.execStxZp zp s
  | .saxZp zp => Sys2Proof.Machine.execSaxZp zp s
  | .dey => Sys2Proof.Machine.execDey s
  | .txa => Sys2Proof.Machine.execTxa s
  | .aneImm imm => Sys2Proof.Machine.execAneImm imm s
  | .styAbs addr => Sys2Proof.Machine.execStyAbs addr s
  | .staAbs addr => Sys2Proof.Machine.execStaAbs addr s
  | .stxAbs addr => Sys2Proof.Machine.execStxAbs addr s
  | .saxAbs addr => Sys2Proof.Machine.execSaxAbs addr s
  | .bccRel rel => Sys2Proof.Machine.execBccRel rel s
  | .staIzy zp => Sys2Proof.Machine.execStaIzy zp s
  | .shaIzy zp => Sys2Proof.Machine.execShaIzy zp s
  | .styZpx zp => Sys2Proof.Machine.execStyZpx zp s
  | .staZpx zp => Sys2Proof.Machine.execStaZpx zp s
  | .stxZpy zp => Sys2Proof.Machine.execStxZpy zp s
  | .saxZpy zp => Sys2Proof.Machine.execSaxZpy zp s
  | .tya => Sys2Proof.Machine.execTya s
  | .staAby addr => Sys2Proof.Machine.execStaAby addr s
  | .txs => Sys2Proof.Machine.execTxs s
  | .tasAby addr => Sys2Proof.Machine.execTasAby addr s
  | .shyAbx addr => Sys2Proof.Machine.execShyAbx addr s
  | .staAbx addr => Sys2Proof.Machine.execStaAbx addr s
  | .shxAby addr => Sys2Proof.Machine.execShxAby addr s
  | .shaAby addr => Sys2Proof.Machine.execShaAby addr s
  | .ldyImm imm => Sys2Proof.Machine.execLdyImm imm s
  | .ldaIzx zp => Sys2Proof.Machine.execLdaIzx zp s
  | .ldxImm imm => Sys2Proof.Machine.execLdxImm imm s
  | .laxIzx zp => Sys2Proof.Machine.execLaxIzx zp s
  | .ldyZp zp => Sys2Proof.Machine.execLdyZp zp s
  | .ldaZp zp => Sys2Proof.Machine.execLdaZp zp s
  | .ldxZp zp => Sys2Proof.Machine.execLdxZp zp s
  | .laxZp zp => Sys2Proof.Machine.execLaxZp zp s
  | .tay => Sys2Proof.Machine.execTay s
  | .ldaImm imm => Sys2Proof.Machine.execLdaImm imm s
  | .tax => Sys2Proof.Machine.execTax s
  | .lxaImm imm => Sys2Proof.Machine.execLxaImm imm s
  | .ldyAbs addr => Sys2Proof.Machine.execLdyAbs addr s
  | .ldaAbs addr => Sys2Proof.Machine.execLdaAbs addr s
  | .ldxAbs addr => Sys2Proof.Machine.execLdxAbs addr s
  | .laxAbs addr => Sys2Proof.Machine.execLaxAbs addr s
  | .bcsRel rel => Sys2Proof.Machine.execBcsRel rel s
  | .ldaIzy zp => Sys2Proof.Machine.execLdaIzy zp s
  | .laxIzy zp => Sys2Proof.Machine.execLaxIzy zp s
  | .ldyZpx zp => Sys2Proof.Machine.execLdyZpx zp s
  | .ldaZpx zp => Sys2Proof.Machine.execLdaZpx zp s
  | .ldxZpy zp => Sys2Proof.Machine.execLdxZpy zp s
  | .laxZpy zp => Sys2Proof.Machine.execLaxZpy zp s
  | .clv => Sys2Proof.Machine.execClv s
  | .ldaAby addr => Sys2Proof.Machine.execLdaAby addr s
  | .tsx => Sys2Proof.Machine.execTsx s
  | .lasAby addr => Sys2Proof.Machine.execLasAby addr s
  | .ldyAbx addr => Sys2Proof.Machine.execLdyAbx addr s
  | .ldaAbx addr => Sys2Proof.Machine.execLdaAbx addr s
  | .ldxAby addr => Sys2Proof.Machine.execLdxAby addr s
  | .laxAby addr => Sys2Proof.Machine.execLaxAby addr s
  | .cpyImm imm => Sys2Proof.Machine.execCpyImm imm s
  | .cmpIzx zp => Sys2Proof.Machine.execCmpIzx zp s
  | .dcpIzx zp => Sys2Proof.Machine.execDcpIzx zp s
  | .cpyZp zp => Sys2Proof.Machine.execCpyZp zp s
  | .cmpZp zp => Sys2Proof.Machine.execCmpZp zp s
  | .decZp zp => Sys2Proof.Machine.execDecZp zp s
  | .dcpZp zp => Sys2Proof.Machine.execDcpZp zp s
  | .iny => Sys2Proof.Machine.execIny s
  | .cmpImm imm => Sys2Proof.Machine.execCmpImm imm s
  | .dex => Sys2Proof.Machine.execDex s
  | .sbxImm imm => Sys2Proof.Machine.execSbxImm imm s
  | .cpyAbs addr => Sys2Proof.Machine.execCpyAbs addr s
  | .cmpAbs addr => Sys2Proof.Machine.execCmpAbs addr s
  | .decAbs addr => Sys2Proof.Machine.execDecAbs addr s
  | .dcpAbs addr => Sys2Proof.Machine.execDcpAbs addr s
  | .bneRel rel => Sys2Proof.Machine.execBneRel rel s
  | .cmpIzy zp => Sys2Proof.Machine.execCmpIzy zp s
  | .dcpIzy zp => Sys2Proof.Machine.execDcpIzy zp s
  | .cmpZpx zp => Sys2Proof.Machine.execCmpZpx zp s
  | .decZpx zp => Sys2Proof.Machine.execDecZpx zp s
  | .dcpZpx zp => Sys2Proof.Machine.execDcpZpx zp s
  | .cld => Sys2Proof.Machine.execCld s
  | .cmpAby addr => Sys2Proof.Machine.execCmpAby addr s
  | .dcpAby addr => Sys2Proof.Machine.execDcpAby addr s
  | .cmpAbx addr => Sys2Proof.Machine.execCmpAbx addr s
  | .decAbx addr => Sys2Proof.Machine.execDecAbx addr s
  | .dcpAbx addr => Sys2Proof.Machine.execDcpAbx addr s
  | .cpxImm imm => Sys2Proof.Machine.execCpxImm imm s
  | .sbcIzx zp => Sys2Proof.Machine.execSbcIzx zp s
  | .iscIzx zp => Sys2Proof.Machine.execIscIzx zp s
  | .cpxZp zp => Sys2Proof.Machine.execCpxZp zp s
  | .sbcZp zp => Sys2Proof.Machine.execSbcZp zp s
  | .incZp zp => Sys2Proof.Machine.execIncZp zp s
  | .iscZp zp => Sys2Proof.Machine.execIscZp zp s
  | .inx => Sys2Proof.Machine.execInx s
  | .sbcImm imm => Sys2Proof.Machine.execSbcImm imm s
  | .nop => Sys2Proof.Machine.execNop s
  | .usbcImm imm => Sys2Proof.Machine.execUsbcImm imm s
  | .cpxAbs addr => Sys2Proof.Machine.execCpxAbs addr s
  | .sbcAbs addr => Sys2Proof.Machine.execSbcAbs addr s
  | .incAbs addr => Sys2Proof.Machine.execIncAbs addr s
  | .iscAbs addr => Sys2Proof.Machine.execIscAbs addr s
  | .beqRel rel => Sys2Proof.Machine.execBeqRel rel s
  | .sbcIzy zp => Sys2Proof.Machine.execSbcIzy zp s
  | .iscIzy zp => Sys2Proof.Machine.execIscIzy zp s
  | .sbcZpx zp => Sys2Proof.Machine.execSbcZpx zp s
  | .incZpx zp => Sys2Proof.Machine.execIncZpx zp s
  | .iscZpx zp => Sys2Proof.Machine.execIscZpx zp s
  | .sed => Sys2Proof.Machine.execSed s
  | .sbcAby addr => Sys2Proof.Machine.execSbcAby addr s
  | .iscAby addr => Sys2Proof.Machine.execIscAby addr s
  | .sbcAbx addr => Sys2Proof.Machine.execSbcAbx addr s
  | .incAbx addr => Sys2Proof.Machine.execIncAbx addr s
  | .iscAbx addr => Sys2Proof.Machine.execIscAbx addr s

end Sys2Proof.Machine
end

