-- ==== Sys2Proof/Machine/Step.lean ====
section
/-! DEFINITION. The instruction step, the core's one state transition (40_execution.md R100, R101). -/

namespace Sys2Proof.Machine

/-- The step: in the halted state nothing changes (60_exceptions.md R321); else the instruction at PC is fetched, decoded
and executed (40_execution.md R101). -/
def step (s : State) : Host.Outcome State Fault Refusal :=
  if s.halted then s.haltedStep else exec s.fetchInstr s

/-- The state with one instruction placed where the next step fetches it, its bits numbered as spec/opcode_table.json
numbers them and every bit at or above `nbits` zero. Log entries 3 and 13. -/
def State.withFetchWord (s : State) (nbits w : Nat) : State :=
  let v := w % 2 ^ nbits
  s.placeCode (BitVec.ofNat 8 v) (BitVec.ofNat 8 (v / 256)) (BitVec.ofNat 8 (v / 65536))

end Sys2Proof.Machine
end

