-- ==== Sys2Proof/Safety.lean ====
section
/-! DEFINITION. What a good state and a safe run are. -/

namespace Sys2Proof.Machine

/-- The live status has U = 1 and B = 0: `P & 0x30 = 0x20` (10_state.md R34). -/
def State.StatusOk (s : State) : Prop := s.p.u = true ∧ s.p.b = false

/-- Work RAM and the program storage are in canonical form (log entries 2 and 6). -/
def State.StorageOk (s : State) : Prop := s.ram.wf ramSize ∧ ∀ c ∈ s.cart, c.wf

/-- What holds between steps (10_state.md R34, R42). -/
def State.Inv (s : State) : Prop := s.StatusOk ∧ s.StorageOk

/-- A step is safe when it answers a next state: no fault, no refusal (20_memory.md R50; 30_encoding.md R83). -/
def State.SafeStep (s : State) : Prop := ∃ t, step s = .next t

end Sys2Proof.Machine
end

