-- ==== Sys2Proof/Certificates/Slice0/Obligations.lean ====
section
/-! DEFINITION. The statements for the provers, from the numbered rules of spec/. First the words they share. -/

namespace Sys2Proof.Claims

open Sys2Proof.Machine

/-- The "Encoding" line of an instruction's rule: exactly these opcodes select the mnemonic, each in its mode. -/
def EncodedBy (m : Mnemonic) (rows : List (Byte × Mode)) : Prop :=
  (∀ op : Byte, (descriptor op).mnemonic = m ↔ op ∈ rows.map Prod.fst) ∧
    ∀ r ∈ rows, (descriptor r.1).operand.mode = r.2

/-- The base cycle counts that an instruction's rule gives for its opcodes. -/
def Costs (rows : List (Byte × Nat)) : Prop := ∀ r ∈ rows, (descriptor r.1).baseCycles = r.2

/-- The summary of the base counts by class and mode (70_reset_and_hazards.md R358). -/
def classCycles (m : Mnemonic) (mode : Mode) : Option Nat :=
  if m ∈ [.lda, .ldx, .ldy, .adc, .sbc, .and, .ora, .eor, .cmp, .cpx, .cpy, .bit, .lax, .las, .nop, .anc, .alr, .arr,
      .sbx, .ane, .lxa] then
    [(Mode.imm, 2), (.zp, 3), (.zpx, 4), (.zpy, 4), (.abs, 4), (.abx, 4), (.aby, 4), (.izx, 6), (.izy, 5),
      (.imp, 2)].lookup mode
  else if m ∈ [.sta, .stx, .sty, .sax] then
    [(Mode.zp, 3), (.zpx, 4), (.zpy, 4), (.abs, 4), (.abx, 5), (.aby, 5), (.izx, 6), (.izy, 6)].lookup mode
  else if m ∈ [.asl, .lsr, .rol, .ror, .inc, .dec, .slo, .rla, .sre, .rra, .dcp, .isc] then
    [(Mode.acc, 2), (.zp, 5), (.zpx, 6), (.abs, 6), (.abx, 7), (.aby, 7), (.izx, 8), (.izy, 8)].lookup mode
  else if m ∈ [.sha, .shx, .shy, .tas] then [(Mode.abx, 5), (.aby, 5), (.izy, 6)].lookup mode
  else if m ∈ [.tax, .tay, .txa, .tya, .tsx, .txs, .inx, .iny, .dex, .dey, .clc, .cld, .cli, .clv, .sec, .sed, .sei] then
    some 2
  else if m ∈ [.bcc, .bcs, .beq, .bne, .bmi, .bpl, .bvc, .bvs] then some 2
  else if m = .jmp then [(Mode.abs, 3), (.ind, 5)].lookup mode
  else if m ∈ [.jsr, .rts, .rti] then some 6
  else if m ∈ [.pha, .php] then some 3
  else if m ∈ [.pla, .plp] then some 4
  else if m = .brk then some 7
  else if m = .jam then some 0
  else none

/-- The resolver's page-crossed signal for an operand; only a memory mode can cross (40_execution.md R109). -/
def crossed (o : Operand) (s : State) : Bool :=
  match o with
  | .mem place => (s.resolve place).crossed
  | .imp | .acc | .imm _ | .rel _ => false

/-- The byte that `fetch()` gives for an operand that has one (40_execution.md R108, R112, R113). -/
def operandByte (o : Operand) (s : State) : Option Byte :=
  match o with
  | .imm b => some b
  | .acc => some s.a
  | .mem place => some (s.read (s.resolve place).addr)
  | .imp | .rel _ => none

/-- `setNZ` by value (40_execution.md R127). -/
def nz (p : Status) (v : Byte) : Status := { p with z := decide (v = 0#8), n := decide (128 ≤ v.toNat) }

/-- The next state of an instruction that transfers no control and leaves `t` of the registers and memory: PC past the
instruction (40_execution.md R124), the cycles of R107, outcome Ok. -/
def completed (i : Instr) (mayAdd : Bool) (s t : State) : Result :=
  .next { t with
    pc := s.pc + BitVec.ofNat 16 i.operand.length
    report := some { cycles := i.baseCycles + (crossed i.operand s && mayAdd).toNat, outcome := .ok } }

/-- Every instruction of the mnemonic takes an operand byte, in each of its modes, and completes with this effect. -/
def OnByte (m : Mnemonic) (mayAdd : Bool) (effect : Byte → State → State) : Prop :=
  ∀ (i : Instr) (s : State), i.mnemonic = m → s.halted = false →
    ∃ v, operandByte i.operand s = some v ∧ exec i s = completed i mayAdd s (effect v s)

/-- Every instruction of the mnemonic resolves to an address, in each of its modes, and completes with this effect; no
page crossing costs a cycle. -/
def OnAddress (m : Mnemonic) (effect : Addr → State → State) : Prop :=
  ∀ (i : Instr) (s : State), i.mnemonic = m → s.halted = false →
    ∃ place, i.operand = .mem place ∧ exec i s = completed i false s (effect (s.resolve place).addr s)

/-- The instruction of the mnemonic is implied and completes with this effect. -/
def OnImplied (m : Mnemonic) (effect : State → State) : Prop :=
  ∀ (i : Instr) (s : State), i.mnemonic = m → s.halted = false →
    i.operand = .imp ∧ exec i s = completed i false s (effect s)

/-- Every form of a shift or rotate writes `result` of the operand byte and the old carry back to where the operand came
from, and takes the new carry from `carryOut`. -/
def Shifts (m : Mnemonic) (result : Byte → Bool → Byte) (carryOut : Byte → Bool) : Prop :=
  ∀ (i : Instr) (s : State), i.mnemonic = m → s.halted = false →
    ∃ v, operandByte i.operand s = some v ∧
      let r := result v s.p.c
      let flagged := { s with p := nz { s.p with c := carryOut v } r }
      (i.operand = .acc ∧ exec i s = completed i false s { flagged with a := r }) ∨
        (∃ place, i.operand = .mem place ∧ exec i s = completed i false s (flagged.write (s.resolve place).addr r))

/-- The branch of the mnemonic: 2 cycles and the next instruction when the condition fails; when it holds, the target is
the address after the branch plus the signed offset, 3 cycles in the same page and 4 in another. Log entry 22. -/
def Branches (m : Mnemonic) (condition : Status → Bool) : Prop :=
  ∀ (i : Instr) (s : State), i.mnemonic = m → s.halted = false →
    ∃ r, i.operand = .rel r ∧
      let after := s.pc + 2#16
      let target := BitVec.ofInt 16 (after.toNat + r.toInt)
      (condition s.p = false → exec i s = .next { s with pc := after, report := some ⟨2, .ok⟩ }) ∧
        (condition s.p = true → exec i s = .next { s with
          pc := target
          report := some ⟨if target.toNat / 256 = after.toNat / 256 then 3 else 4, .ok⟩ })

/-- A signed value lies outside the range of a byte. -/
def outOfRange (v : Int) : Bool := decide (v < -128 ∨ 127 < v)

/-- `A + m + C`, by value: the low byte of the sum, C on unsigned overflow, V on signed overflow. -/
def added (m : Byte) (s : State) : State :=
  let sum := s.a.toNat + m.toNat + s.p.c.toNat
  let r := BitVec.ofNat 8 sum
  { s with
    a := r
    p := nz { s.p with c := decide (256 ≤ sum), v := outOfRange (s.a.toInt + m.toInt + s.p.c.toNat) } r }

/-- `A - m - (1 - C)`, by value: C when there is no borrow, V on signed overflow. -/
def subtracted (m : Byte) (s : State) : State :=
  let borrow := 1 - s.p.c.toNat
  let r := BitVec.ofInt 8 ((s.a.toNat : Int) - m.toNat - borrow)
  { s with
    a := r
    p := nz { s.p with c := decide (m.toNat + borrow ≤ s.a.toNat), v := outOfRange (s.a.toInt - m.toInt - borrow) } r }

/-- The flags of a compare, by value: C when `r ≥ m` unsigned, Z when equal, N the top bit of the difference. -/
def compared (r m : Byte) (s : State) : State :=
  { s with p := { s.p with c := decide (m.toNat ≤ r.toNat), z := decide (r = m), n := (r - m).msb } }

/-- The base address of an indexed mode: what the index is added to (44_undocumented.md R285). -/
def baseAddr (place : Place) (s : State) : Option Addr :=
  match place with
  | .abx a => some a
  | .aby a => some a
  | .izy b => some (s.zeroPagePointer b)
  | .zp _ | .zpx _ | .zpy _ | .abs _ | .ind _ | .izx _ => none

/-- Every form of SHA, SHX, SHY or TAS stores `v AND (H + 1)` at the resolved address, or at that byte `++` the low
address byte when the index crossed a page, after the register change `before`. -/
def HighAndStores (m : Mnemonic) (before : State → State) (v : State → Byte) : Prop :=
  ∀ (i : Instr) (s : State), i.mnemonic = m → s.halted = false →
    ∃ place base, i.operand = .mem place ∧ baseAddr place s = some base ∧
      let w := v s &&& (highByte base + 1#8)
      let at_ := s.resolve place
      let target := if at_.crossed then assemble w (lowByte at_.addr) else at_.addr
      exec i s = completed i false s ((before s).write target w)

/-- The addresses an instruction stores to, with the functions its meaning uses. -/
def storedAddresses (i : Instr) (s : State) : List Addr :=
  match i.operand with
  | .mem place =>
    let addr := (s.resolve place).addr
    if i.mnemonic ∈ [.sta, .stx, .sty, .sax, .inc, .dec, .asl, .lsr, .rol, .ror, .slo, .rla, .sre, .rra, .dcp, .isc] then
      [addr]
    else if i.mnemonic = .sha then [highAndAddr s.y (s.a &&& s.x) addr]
    else if i.mnemonic = .shx then [highAndAddr s.y s.x addr]
    else if i.mnemonic = .shy then [highAndAddr s.x s.y addr]
    else if i.mnemonic = .tas then [highAndAddr s.y (s.a &&& s.x) addr]
    else if i.mnemonic = .jsr then [stackAddr s.sp, stackAddr (s.sp - 1#8)]
    else []
  | .imp =>
    if i.mnemonic ∈ [.pha, .php] then [stackAddr s.sp]
    else if i.mnemonic = .brk then [stackAddr s.sp, stackAddr (s.sp - 1#8), stackAddr (s.sp - 2#8)]
    else []
  | .acc | .imm _ | .rel _ => []

/-- Two addresses are one byte of work RAM (20_memory.md R52). -/
def sameRamByte (a b : Addr) : Prop := a.toNat ≤ 0x1FFF ∧ b.toNat ≤ 0x1FFF ∧ a.toNat % 2048 = b.toNat % 2048

/-- The mnemonics whose rows name N as written (30_encoding.md R84, column flags). -/
def writesN : List Mnemonic :=
  [.adc, .alr, .anc, .and, .ane, .arr, .asl, .bit, .cmp, .cpx, .cpy, .dcp, .dec, .dex, .dey, .eor, .inc,
   .inx, .iny, .isc, .las, .lax, .lda, .ldx, .ldy, .lsr, .lxa, .ora, .pla, .plp, .rla, .rol, .ror, .rra,
   .rti, .sbc, .sbx, .slo, .sre, .tax, .tay, .tsx, .txa, .tya]

/-- As `writesN`, for V. -/
def writesV : List Mnemonic := [.adc, .arr, .bit, .clv, .isc, .plp, .rra, .rti, .sbc]

/-- As `writesN`, for D. -/
def writesD : List Mnemonic := [.cld, .plp, .rti, .sed]

/-- As `writesN`, for I. -/
def writesI : List Mnemonic := [.brk, .cli, .plp, .rti, .sei]

/-- As `writesN`, for Z. -/
def writesZ : List Mnemonic :=
  [.adc, .alr, .anc, .and, .ane, .arr, .asl, .bit, .cmp, .cpx, .cpy, .dcp, .dec, .dex, .dey, .eor, .inc,
   .inx, .iny, .isc, .las, .lax, .lda, .ldx, .ldy, .lsr, .lxa, .ora, .pla, .plp, .rla, .rol, .ror, .rra,
   .rti, .sbc, .sbx, .slo, .sre, .tax, .tay, .tsx, .txa, .tya]

/-- As `writesN`, for C. -/
def writesC : List Mnemonic :=
  [.adc, .alr, .anc, .arr, .asl, .clc, .cmp, .cpx, .cpy, .dcp, .isc, .lsr, .plp, .rla, .rol, .ror, .rra,
   .rti, .sbc, .sbx, .sec, .slo, .sre]

/-- The handlers that signal may_add = 1 (40_execution.md R110). -/
def mayAddCycle : List Mnemonic :=
  [.lda, .ldx, .ldy, .and, .ora, .eor, .cmp, .cpx, .cpy, .adc, .sbc, .nop, .lax, .las]

/-- The conditions of the eight branches (43_control_stack_flags.md R221-R228); every other mnemonic is no branch. -/
def branchCondition (m : Mnemonic) (p : Status) : Option Bool :=
  [(Mnemonic.bcc, !p.c), (.bcs, p.c), (.beq, p.z), (.bne, !p.z), (.bmi, p.n), (.bpl, !p.n), (.bvc, !p.v),
    (.bvs, p.v)].lookup m

/-- The cycles that a branch handler adds (43_control_stack_flags.md R220, its pseudocode). Log entry 22. -/
def branchExtra (i : Instr) (s : State) : Nat :=
  match branchCondition i.mnemonic s.p, i.operand with
  | some true, .rel r =>
    let after := s.pc + 2#16
    if (BitVec.ofInt 16 (after.toNat + r.toInt)).toNat / 256 = after.toNat / 256 then 1 else 2
  | _, _ => 0

/-- Apply a change to a next state. -/
def mapNext (f : State → State) : Result → Result
  | .next t => .next (f t)
  | .fault r => .fault r
  | .refused r => .refused r

/-- The state with another D flag. -/
def withD (d : Bool) (s : State) : State := { s with p := { s.p with d := d } }

/-- The state with another I flag. -/
def withI (i : Bool) (s : State) : State := { s with p := { s.p with i := i } }

/-- The mnemonics that transfer control: PC is not simply past the instruction (10_state.md R43, row PC). -/
def transfers : List Mnemonic :=
  [.jmp, .jsr, .rts, .brk, .rti, .bcc, .bcs, .beq, .bne, .bmi, .bpl, .bvc, .bvs]

end Sys2Proof.Claims

open Sys2Proof Sys2Proof.Machine Sys2Proof.Claims

/-- Words written out from the opcode map decode to their instructions.
A word of each family, written out from the opcode map and the operand layout, decodes to its instruction and
leaves the bytes after it. Cites: 30_encoding.md R81, 30_encoding.md R82, 30_encoding.md R84, 30_encoding.md R89. -/
def Obligations.DecoderReadsWordsWrittenOut : Prop :=
  decode [0xA9#8, 0x42#8] = .ok (.ldaImm 0x42#8, []) ∧
  decode [0xBD#8, 0x34#8, 0x12#8, 0xEA#8] = .ok (.ldaAbx 0x1234#16, [0xEA#8]) ∧
  decode [0x96#8, 0xF0#8] = .ok (.stxZpy 0xF0#8, []) ∧
  decode [0x8A#8] = .ok (.txa, []) ∧
  decode [0x61#8, 0x20#8] = .ok (.adcIzx 0x20#8, []) ∧
  decode [0x0A#8] = .ok (.aslAcc, []) ∧
  decode [0xD0#8, 0xFD#8] = .ok (.bneRel 0xFD#8, []) ∧
  decode [0x6C#8, 0xFF#8, 0x10#8] = .ok (.jmpInd 0x10FF#16, []) ∧
  decode [0x00#8, 0xEA#8] = .ok (.brk, [0xEA#8]) ∧
  decode [0xF3#8, 0x10#8] = .ok (.iscIzy 0x10#8, []) ∧
  decode [0x92#8] = .ok (.jam .op92, []) ∧
  decode [0x1C#8, 0xFF#8, 0x12#8] = .ok (.nopAbx .op1C 0x12FF#16, []) ∧
  decode [0xAD#8, 0x00#8] = .error (.missingOperand 0xAD#8)

/-- Decoding an encoded instruction gives it back, for every instruction and every operand value.
For every well-formed instruction and any bytes after it, decoding its encoding gives the instruction and exactly
those bytes. Cites: 30_encoding.md R80, 30_encoding.md R81, 30_encoding.md R82. -/
def Obligations.DecodeOfEncodeIsTheInstruction : Prop :=
  ∀ (i : Instr) (rest : List Byte), i.wellFormed = true → decode (encode i ++ rest) = .ok (i, rest)

/-- Whatever decodes is the encoding of what it decodes to: each byte sequence has one meaning.
If a list of bytes decodes to an instruction and a rest, the list is the encoding of that instruction followed by
the rest. Cites: 30_encoding.md R80, 30_encoding.md R83, 30_encoding.md R88. -/
def Obligations.DecodedBytesAreTheEncoding : Prop :=
  ∀ (bytes rest : List Byte) (i : Instr), decode bytes = .ok (i, rest) → bytes = encode i ++ rest

/-- Every one of the 256 opcode bytes selects an instruction; no lookup fails.
For every opcode byte and any two bytes after it, the decoder answers an instruction whose opcode is that byte, and
the rest of the bytes; it runs from every state, with no illegal-instruction trap. Cites: R83. -/
def Obligations.EveryOpcodeByteHasADescriptor : Prop :=
  ∀ op b1 b2 : Byte, ∃ (i : Instr) (rest : List Byte), decode [op, b1, b2] = .ok (i, rest) ∧ i.opcode = op ∧
    ∀ s : State, ∃ t, exec i s = .next t

/-- A step that is not halted executes the instruction that the bytes at PC decode to.
If the core is not halted and the bytes at PC, PC + 1 and PC + 2 decode to a well-formed instruction, the step is
the meaning of that instruction at that state; the meaning itself advances PC. Cites: 40_execution.md R101,
40_execution.md R102, 40_execution.md R103, 20_memory.md R68. -/
def Obligations.StepRunsTheDecodedInstruction : Prop :=
  ∀ (s : State) (i : Instr) (rest : List Byte), s.halted = false → i.wellFormed = true →
    decode [s.read s.pc, s.read (s.pc + 1#16), s.read (s.pc + 2#16)] = .ok (i, rest) → step s = exec i s

/-- A step taken in the halted state changes no state and returns (0, Halted).
When halted, a step answers the same state; only the returned pair, held in the model's own report field (log entry
5), becomes (0, Halted), and halted stays set; the host's launch and reset clear it. Cites: R321. -/
def Obligations.HaltedStepChangesNothing : Prop :=
  (∀ s : State, s.halted = true → step s = .next { s with report := some ⟨0, .halted⟩ }) ∧
    ∀ (s : State) (a x y : Byte), (s.hostReset a x y).halted = false ∧ (State.launch s.cart a x y s.ram).halted = false

/-- Every step, and every instruction from every state, answers a next state.
From every state a step answers a next state, never a fault or a refusal, and so does the meaning of every
instruction; the next state carries the step's report, Halted exactly when the core is halted. Cites: 20_memory.md
R50, 30_encoding.md R83, 41_load_store_transfer.md R140, 93_implementation_defined.md part 1. -/
def Obligations.EveryStepAnswersANextState : Prop :=
  (∀ (i : Instr) (s : State), ∃ t, exec i s = .next t) ∧
    ∀ s : State, ∃ t report, step s = .next t ∧ t.report = some report ∧ (report.outcome = .halted ↔ t.halted = true)

/-- Every step keeps U = 1, B = 0 and the canonical form of storage.
From every state that meets the invariant (P.U = 1, P.B = 0, work RAM and program storage in canonical form), a
step that answers a next state answers one that meets it. Cites: 10_state.md R34, 10_state.md R30, 10_state.md R31,
20_memory.md R65. -/
def Obligations.StepKeepsTheInvariant : Prop :=
  ∀ s t : State, s.Inv → step s = .next t → t.Inv

/-- The state after reset meets the invariant, and so does every launch from canonical storage.
State.reset meets the invariant, and so does the launch state for every cartridge and RAM contents in canonical
form and every launch value of A, X and Y. State.reset is the launch with no cartridge, A = X = Y = 0 and no RAM
cell listed: the model's choice (log entries 1, 2 and 3). Cites: 10_state.md R34, 70_reset_and_hazards.md R350. -/
def Obligations.ResetMeetsTheInvariant : Prop :=
  State.reset = State.launch none 0x00#8 0x00#8 0x00#8 [] ∧ State.reset.Inv ∧
    ∀ (cart : Option Cartridge) (a x y : Byte) (ram : Memory), ram.wf ramSize → (∀ c ∈ cart, c.wf) →
      (State.launch cart a x y ram).Inv

/-- The launch state, for every value of the OPEN parameters.
The launch sets PC to the little-endian vector at 0xFFFC read through the bus (0x0000 with no cartridge), SP to
0xFD, P to 0x24, A, X, Y and RAM to their parameters, halted to 0, keeps the attached cartridge and has returned no
cycle count. Cites: R350. -/
def Obligations.LaunchState : Prop :=
  ∀ (cart : Option Cartridge) (a x y : Byte) (ram : Memory),
    let s := State.launch cart a x y ram
    s.pc = assemble (s.read 0xFFFD#16) (s.read 0xFFFC#16) ∧ s.sp = 0xFD#8 ∧ s.p.toByte = 0x24#8 ∧ s.a = a ∧ s.x = x ∧
      s.y = y ∧ s.halted = false ∧ s.ram = ram ∧ s.cart = cart ∧ s.report = none ∧ (cart = none → s.pc = 0x0000#16)

/-- The host's reset sets the registers as the launch does and keeps RAM and the cartridge.
From any state, halted or not, reset sets PC, SP, P, A, X, Y and halted as the launch does, for the same OPEN
launch values, and leaves RAM and the cartridge unchanged; no step clears halted. Cites: R351. -/
def Obligations.HostResetKeepsRamAndCartridge : Prop :=
  (∀ (s : State) (a x y : Byte),
    let t := s.hostReset a x y
    let l := State.launch s.cart a x y s.ram
    t.pc = l.pc ∧ t.sp = l.sp ∧ t.p = l.p ∧ t.a = a ∧ t.x = x ∧ t.y = y ∧ t.halted = false ∧ t.ram = s.ram ∧
      t.cart = s.cart) ∧
    ∀ s t : State, s.halted = true → step s = .next t → t.halted = true

/-- No state depends on a returned cycle count: a step does not read the report field.
A step from two states that differ only in the model's report field (log entry 5) answers the same. Cites:
10_state.md R40, 40_execution.md R107, 70_reset_and_hazards.md R357. -/
def Obligations.StepDoesNotReadItsReport : Prop :=
  ∀ (s : State) (r : Option StepReport), step { s with report := r } = step s

/-- No step changes the cartridge or any byte read at 0x2000 or above.
After any step the cartridge is the same, and every address from 0x2000 to 0xFFFF reads as before. Cites:
10_state.md R38, 20_memory.md R57, 20_memory.md R53, 20_memory.md R54. -/
def Obligations.StepLeavesTheCartridge : Prop :=
  ∀ s t : State, step s = .next t →
    t.cart = s.cart ∧ ∀ a : Addr, 0x2000 ≤ a.toNat → t.read a = s.read a

/-- JAM is the only instruction that changes halted.
The next state of an instruction is halted exactly when the state before was or the instruction is a JAM. Cites:
10_state.md R36, 10_state.md R43, 60_exceptions.md R320. -/
def Obligations.OnlyJamSetsHalted : Prop :=
  ∀ (i : Instr) (s t : State), exec i s = .next t → t.halted = (s.halted || decide (i.mnemonic = .jam))

/-- JAM halts, leaves PC at its address + 1 and changes nothing else.
Each of the 12 JAM opcodes (constructor jam) answers the state with halted set and PC advanced by one, and returns
(0, Halted); a step from there changes no register, flag or memory byte. Cites: R293. -/
def Obligations.JamHaltsAndChangesNothingElse : Prop :=
  EncodedBy .jam [(0x02, .imp), (0x12, .imp), (0x22, .imp), (0x32, .imp), (0x42, .imp), (0x52, .imp),
    (0x62, .imp), (0x72, .imp), (0x92, .imp), (0xB2, .imp), (0xD2, .imp), (0xF2, .imp)] ∧
  (∀ (k : JamOpcode) (s : State),
    exec (.jam k) s = .next { s with halted := true, pc := s.pc + 1#16, report := some ⟨0, .halted⟩ }) ∧
  ∀ (i : Instr) (s t : State), i.mnemonic = .jam → exec i s = .next t → step t = .next t

/-- The cycles of every instruction: base, page-crossing bonus and branch extra.
For every instruction, the returned cycle count is its base count, plus one when the resolver reports a crossing
and the handler may add a cycle (the list of R110), plus what a branch adds; a JAM returns 0; and no instruction
depends on the count returned before it. What a branch adds is that of R220's pseudocode, also for a taken branch
at 0xFFFE with offset 0x00, where the corner case of R220 counts one cycle more: the model's reading (log entry
22). Cites: 40_execution.md R107, 40_execution.md R110, 43_control_stack_flags.md R220 (pseudocode). -/
def Obligations.CyclesOfEveryInstruction : Prop :=
  (∀ (i : Instr) (s t : State), exec i s = .next t →
    t.report.map StepReport.cycles =
      some (i.baseCycles + (crossed i.operand s && decide (i.mnemonic ∈ mayAddCycle)).toNat + branchExtra i s)) ∧
  (∀ (i : Instr) (s t : State), i.mnemonic = .jam → exec i s = .next t → t.report.map StepReport.cycles = some 0) ∧
  ∀ (i : Instr) (s : State) (r : Option StepReport), exec i { s with report := r } = exec i s

/-- A bus write is seen exactly through the aliases of its work-RAM byte.
After a write, a read gives the written byte when both addresses are in 0x0000-0x1FFF and equal modulo 2048, and
every other address reads as before; no register changes. Cites: R52. -/
def Obligations.BusWriteIsSeenThroughEveryMirror : Prop :=
  ∀ (s : State) (a b : Addr) (v : Byte),
    (sameRamByte a b → (s.write a v).read b = v) ∧ (¬ sameRamByte a b → (s.write a v).read b = s.read b) ∧
      s.write a v = { s with ram := (s.write a v).ram }

/-- The bus decoder, branch by branch, for reads and writes.
A read of 0x0000-0x1FFF gives the RAM byte at the address modulo 2048; of 0x2000-0x7FFF gives 0; of 0x8000-0xFFFF
gives 0 with no cartridge and else the program byte at the offset modulo the program size; a write outside
0x0000-0x1FFF changes nothing, and one inside it writes that RAM byte. Cites: R58. -/
def Obligations.BusDecoderBranches : Prop :=
  ∀ (s : State) (a : Addr) (v : Byte),
    (a.toNat ≤ 0x1FFF → s.read a = s.ram.read (a.toNat % 2048) ∧
      s.write a v = { s with ram := s.ram.write (a.toNat % 2048) v }) ∧
    (0x2000 ≤ a.toNat → s.write a v = s) ∧
    (0x2000 ≤ a.toNat ∧ a.toNat ≤ 0x7FFF → s.read a = 0x00#8) ∧
    (0x8000 ≤ a.toNat → s.cart = none → s.read a = 0x00#8) ∧
    (0x8000 ≤ a.toNat → ∀ c, s.cart = some c → s.read a = c.prg.read ((a.toNat - 0x8000) % c.size.bytes))

/-- A 16 KiB program image reads the same in both halves of the window; a 32 KiB one is direct.
With a 16 KiB image, addresses a and a + 0x4000 for a in 0x8000-0xBFFF read the same program byte; with a 32 KiB
image every window address reads the byte at its offset. Cites: 20_memory.md R56. -/
def Obligations.SixteenKibImageFolds : Prop :=
  ∀ (s : State) (c : Cartridge) (a : Addr), s.cart = some c → 0x8000 ≤ a.toNat →
    (c.size = .kib16 → a.toNat ≤ 0xBFFF →
      s.read a = c.prg.read (a.toNat - 0x8000) ∧ s.read (a + 0x4000#16) = s.read a) ∧
    (c.size = .kib32 → s.read a = c.prg.read (a.toNat - 0x8000))

/-- A cartridge image is accepted exactly when it has 16384 or 32768 bytes, and holds its bytes.
The configuration check refuses every other length; an accepted image has the size of its list of bytes, is in
canonical form, and its program byte at each offset is the byte of the list. Cites: 20_memory.md R56,
93_implementation_defined.md K1.8. -/
def Obligations.AttachChecksTheImageSize : Prop :=
  (∀ bytes : List Byte, (∃ c, Cartridge.ofBytes bytes = .ok c) ↔ (bytes.length = 16384 ∨ bytes.length = 32768)) ∧
    ∀ (bytes : List Byte) (c : Cartridge), Cartridge.ofBytes bytes = .ok c →
      c.size.bytes = bytes.length ∧ c.wf ∧ ∀ (k : Nat) (h : k < bytes.length), c.prg.read k = bytes[k]

/-- Storages in canonical form that read the same are the same data.
Two storages in canonical form that give the same byte at every offset are equal; the canonical form is the model's
own (log entries 2 and 6). Cites: 20_memory.md R65. -/
def Obligations.EqualStorageIsEqualData : Prop :=
  ∀ (size : Nat) (m n : Memory), m.wf size → n.wf size → (∀ k, m.read k = n.read k) → m = n

/-- The effective address and the page-crossed signal of each memory mode, by value.
Zero-page modes wrap in page 0 and never cross; absolute modes add the index modulo 2^16; zero-page pointers are
little-endian with the second byte at (t + 1) modulo 256; (zp),Y adds Y after the dereference. An indexed mode
crosses exactly when the low byte of the base plus the index exceeds 255. Cites: 40_execution.md R114-R119,
40_execution.md R122, 40_execution.md R123, 40_execution.md R109. -/
def Obligations.EffectiveAddressOfEachMode : Prop :=
  ∀ (s : State) (b : Byte) (a : Addr),
    let pointer (t : Nat) : Nat :=
      256 * (s.read (BitVec.ofNat 16 ((t + 1) % 256))).toNat + (s.read (BitVec.ofNat 16 t)).toNat
    ((s.resolve (.zp b)).addr.toNat = b.toNat ∧ (s.resolve (.zp b)).crossed = false) ∧
    ((s.resolve (.zpx b)).addr.toNat = (b.toNat + s.x.toNat) % 256 ∧ (s.resolve (.zpx b)).crossed = false) ∧
    ((s.resolve (.zpy b)).addr.toNat = (b.toNat + s.y.toNat) % 256 ∧ (s.resolve (.zpy b)).crossed = false) ∧
    ((s.resolve (.abs a)).addr = a ∧ (s.resolve (.abs a)).crossed = false) ∧
    ((s.resolve (.abx a)).addr.toNat = (a.toNat + s.x.toNat) % 65536 ∧
      (s.resolve (.abx a)).crossed = decide (256 ≤ a.toNat % 256 + s.x.toNat)) ∧
    ((s.resolve (.aby a)).addr.toNat = (a.toNat + s.y.toNat) % 65536 ∧
      (s.resolve (.aby a)).crossed = decide (256 ≤ a.toNat % 256 + s.y.toNat)) ∧
    ((s.resolve (.izx b)).addr.toNat = pointer ((b.toNat + s.x.toNat) % 256) ∧ (s.resolve (.izx b)).crossed = false) ∧
    ((s.resolve (.izy b)).addr.toNat = (pointer b.toNat + s.y.toNat) % 65536 ∧
      (s.resolve (.izy b)).crossed = decide (256 ≤ pointer b.toNat % 256 + s.y.toNat))

/-- The indirect mode reads the target's high byte from the same page when the pointer ends in 0xFF.
The indirect resolver gives the little-endian target at the pointer, whose high byte is read from pointer & 0xFF00
when the pointer's low byte is 0xFF and from pointer + 1 otherwise; it never reports a crossing, and only JMP uses
it. Cites: R121. -/
def Obligations.IndirectJumpWrapsInItsPage : Prop :=
  (∀ (s : State) (ptr : Addr),
    (ptr.toNat % 256 = 0xFF → (s.resolve (.ind ptr)).addr = assemble (s.read (ptr &&& 0xFF00#16)) (s.read ptr)) ∧
    (ptr.toNat % 256 ≠ 0xFF → (s.resolve (.ind ptr)).addr = assemble (s.read (ptr + 1#16)) (s.read ptr)) ∧
    (s.resolve (.ind ptr)).crossed = false) ∧
  ∀ (i : Instr) (ptr : Addr), i.operand = .mem (.ind ptr) → i = .jmpInd ptr

/-- A push writes at SP and then decrements it; a pop increments SP and then reads.
A push writes the byte at 0x0100 + SP and decrements SP modulo 256; a pop increments SP modulo 256 and returns the
byte at 0x0100 + the new SP; so a pop after a push returns the pushed byte and the old SP. Cites: R125, R126. -/
def Obligations.PushAndPopAreInverse : Prop :=
  ∀ (s : State) (v : Byte),
    s.push v = { s.write (0x0100#16 + s.sp.setWidth 16) v with sp := BitVec.ofInt 8 (s.sp.toNat - 1) } ∧
    s.popped = { s with sp := BitVec.ofNat 8 (s.sp.toNat + 1) } ∧
    s.top = s.read (0x0100#16 + s.popped.sp.setWidth 16) ∧
    (s.push v).top = v ∧ (s.push v).popped.sp = s.sp

/-- The base cycle count of every opcode is that of its class and mode.
For every opcode byte the base count in the instruction table is the count that the summary by class gives for its
mnemonic and addressing mode. Cites: 70_reset_and_hazards.md R357, 70_reset_and_hazards.md R358, 30_encoding.md
R84. -/
def Obligations.BaseCyclesByClass : Prop :=
  ∀ op : Byte, some (descriptor op).baseCycles = classCycles (descriptor op).mnemonic (descriptor op).operand.mode

/-- LDA, LDX and LDY load the operand byte and set Z and N from it.
In every mode of LDA, LDX and LDY the target register takes the operand byte, Z and N come from it, a page crossing
costs one cycle, and nothing else changes but PC. Cites: R141, R142, R143. -/
def Obligations.LoadsSetTheRegisterAndNZ : Prop :=
  EncodedBy .lda [(0xA9, .imm), (0xA5, .zp), (0xB5, .zpx), (0xAD, .abs), (0xBD, .abx), (0xB9, .aby),
    (0xA1, .izx), (0xB1, .izy)] ∧
  EncodedBy .ldx [(0xA2, .imm), (0xA6, .zp), (0xB6, .zpy), (0xAE, .abs), (0xBE, .aby)] ∧
  EncodedBy .ldy [(0xA0, .imm), (0xA4, .zp), (0xB4, .zpx), (0xAC, .abs), (0xBC, .abx)] ∧
  OnByte .lda true (fun m s => { s with a := m, p := nz s.p m }) ∧
  OnByte .ldx true (fun m s => { s with x := m, p := nz s.p m }) ∧
  OnByte .ldy true (fun m s => { s with y := m, p := nz s.p m })

/-- STA, STX and STY write the register at the resolved address and nothing else.
In every mode of STA, STX and STY the register is written through the bus at the resolved address; no flag and no
register but PC changes, and a page crossing costs no cycle. Cites: R144, R145, R146. -/
def Obligations.StoresWriteTheRegister : Prop :=
  EncodedBy .sta [(0x85, .zp), (0x95, .zpx), (0x8D, .abs), (0x9D, .abx), (0x99, .aby), (0x81, .izx), (0x91, .izy)] ∧
  EncodedBy .stx [(0x86, .zp), (0x96, .zpy), (0x8E, .abs)] ∧
  EncodedBy .sty [(0x84, .zp), (0x94, .zpx), (0x8C, .abs)] ∧
  Costs [(0x9D, 5), (0x99, 5), (0x91, 6)] ∧
  OnAddress .sta (fun a s => s.write a s.a) ∧
  OnAddress .stx (fun a s => s.write a s.x) ∧
  OnAddress .sty (fun a s => s.write a s.y)

/-- The six transfers copy a register; all but TXS set Z and N.
TAX, TAY, TXA, TYA and TSX copy and set Z and N from the copied byte; TXS copies X to SP and changes no flag.
Cites: R147, R148, R149, R150, R151, R152. -/
def Obligations.TransfersCopyARegister : Prop :=
  EncodedBy .tax [(0xAA, .imp)] ∧
  EncodedBy .tay [(0xA8, .imp)] ∧
  EncodedBy .txa [(0x8A, .imp)] ∧
  EncodedBy .tya [(0x98, .imp)] ∧
  EncodedBy .tsx [(0xBA, .imp)] ∧
  EncodedBy .txs [(0x9A, .imp)] ∧
  OnImplied .tax (fun s => { s with x := s.a, p := nz s.p s.a }) ∧
  OnImplied .tay (fun s => { s with y := s.a, p := nz s.p s.a }) ∧
  OnImplied .txa (fun s => { s with a := s.x, p := nz s.p s.x }) ∧
  OnImplied .tya (fun s => { s with a := s.y, p := nz s.p s.y }) ∧
  OnImplied .tsx (fun s => { s with x := s.sp, p := nz s.p s.sp }) ∧
  OnImplied .txs (fun s => { s with sp := s.x })

/-- ADC adds the operand and the carry, with C the unsigned and V the signed overflow.
In every mode of ADC, A becomes (A + m + C) modulo 256, C is set when the sum is 256 or more, V when the signed sum
is outside -128..127, Z and N come from the result, D has no effect, I and D are kept, and a crossing costs one
cycle. Cites: R171, R174. -/
def Obligations.AdcAddsWithCarry : Prop :=
  EncodedBy .adc [(0x69, .imm), (0x65, .zp), (0x75, .zpx), (0x6D, .abs), (0x7D, .abx), (0x79, .aby),
    (0x61, .izx), (0x71, .izy)] ∧
  OnByte .adc true added

/-- SBC, and the undocumented 0xEB, subtract the operand and the borrow.
In every mode of SBC and for opcode 0xEB, A becomes (A - m - (1 - C)) modulo 256, C is set when there is no borrow,
V when the signed difference is outside -128..127, Z and N come from the result; a crossing costs one cycle. Cites:
R175, R291. -/
def Obligations.SbcSubtractsWithBorrow : Prop :=
  EncodedBy .sbc [(0xE9, .imm), (0xE5, .zp), (0xF5, .zpx), (0xED, .abs), (0xFD, .abx), (0xF9, .aby),
    (0xE1, .izx), (0xF1, .izy), (0xEB, .imm)] ∧
  OnByte .sbc true subtracted

/-- AND, ORA and EOR combine A with the operand byte and set Z and N.
In every mode of AND, ORA and EOR, A takes the bitwise result, Z and N come from it, and nothing else changes but
PC; a crossing costs one cycle. Cites: R176, R177, R178. -/
def Obligations.LogicCombinesWithA : Prop :=
  EncodedBy .and [(0x29, .imm), (0x25, .zp), (0x35, .zpx), (0x2D, .abs), (0x3D, .abx), (0x39, .aby),
    (0x21, .izx), (0x31, .izy)] ∧
  EncodedBy .ora [(0x09, .imm), (0x05, .zp), (0x15, .zpx), (0x0D, .abs), (0x1D, .abx), (0x19, .aby),
    (0x01, .izx), (0x11, .izy)] ∧
  EncodedBy .eor [(0x49, .imm), (0x45, .zp), (0x55, .zpx), (0x4D, .abs), (0x5D, .abx), (0x59, .aby),
    (0x41, .izx), (0x51, .izy)] ∧
  OnByte .and true (fun m s => { s with a := s.a &&& m, p := nz s.p (s.a &&& m) }) ∧
  OnByte .ora true (fun m s => { s with a := s.a ||| m, p := nz s.p (s.a ||| m) }) ∧
  OnByte .eor true (fun m s => { s with a := s.a ^^^ m, p := nz s.p (s.a ^^^ m) })

/-- CMP, CPX and CPY set C, Z and N from the difference and change nothing else.
In every mode C is set when the register is at least the operand, unsigned, Z when they are equal, N is bit 7 of
the difference; registers, V and memory are unchanged; a crossing costs one cycle. Cites: R172, R179, R180, R181. -/
def Obligations.ComparesSetCarryZeroNegative : Prop :=
  EncodedBy .cmp [(0xC9, .imm), (0xC5, .zp), (0xD5, .zpx), (0xCD, .abs), (0xDD, .abx), (0xD9, .aby),
    (0xC1, .izx), (0xD1, .izy)] ∧
  EncodedBy .cpx [(0xE0, .imm), (0xE4, .zp), (0xEC, .abs)] ∧
  EncodedBy .cpy [(0xC0, .imm), (0xC4, .zp), (0xCC, .abs)] ∧
  OnByte .cmp true (fun m s => compared s.a m s) ∧
  OnByte .cpx true (fun m s => compared s.x m s) ∧
  OnByte .cpy true (fun m s => compared s.y m s)

/-- BIT sets Z from A AND m, and N and V from bits 7 and 6 of the operand.
Both modes of BIT set Z from the AND, copy N and V from the operand, keep A and the other flags, and never gain a
cycle. Cites: R182. -/
def Obligations.BitCopiesOperandBits : Prop :=
  EncodedBy .bit [(0x24, .zp), (0x2C, .abs)] ∧
  OnByte .bit false (fun m s => { s with p := { s.p with
    z := decide (s.a &&& m = 0#8), n := decide (128 ≤ m.toNat), v := decide (64 ≤ m.toNat % 128) } })

/-- INC and DEC write the byte at the resolved address plus or minus one and set Z and N.
In every mode the byte read at the resolved address, plus or minus one modulo 256, is written there through the
bus, and Z and N come from it even where the write is ignored; C and V are kept. Cites: R183, R184. -/
def Obligations.IncAndDecChangeMemoryByOne : Prop :=
  EncodedBy .inc [(0xE6, .zp), (0xF6, .zpx), (0xEE, .abs), (0xFE, .abx)] ∧
  EncodedBy .dec [(0xC6, .zp), (0xD6, .zpx), (0xCE, .abs), (0xDE, .abx)] ∧
  OnAddress .inc (fun a s => let r := BitVec.ofNat 8 ((s.read a).toNat + 1)
    { s.write a r with p := nz s.p r }) ∧
  OnAddress .dec (fun a s => let r := BitVec.ofInt 8 ((s.read a).toNat - 1)
    { s.write a r with p := nz s.p r })

/-- INX, INY, DEX and DEY step the index register by one, wrapping, and set Z and N.
The register plus or minus one modulo 256 is written back, Z and N come from it, C and V are kept. Cites: R185,
R186, R187, R188. -/
def Obligations.IndexRegistersStepByOne : Prop :=
  EncodedBy .inx [(0xE8, .imp)] ∧
  EncodedBy .iny [(0xC8, .imp)] ∧
  EncodedBy .dex [(0xCA, .imp)] ∧
  EncodedBy .dey [(0x88, .imp)] ∧
  OnImplied .inx (fun s => let r := BitVec.ofNat 8 (s.x.toNat + 1); { s with x := r, p := nz s.p r }) ∧
  OnImplied .iny (fun s => let r := BitVec.ofNat 8 (s.y.toNat + 1); { s with y := r, p := nz s.p r }) ∧
  OnImplied .dex (fun s => let r := BitVec.ofInt 8 (s.x.toNat - 1); { s with x := r, p := nz s.p r }) ∧
  OnImplied .dey (fun s => let r := BitVec.ofInt 8 (s.y.toNat - 1); { s with y := r, p := nz s.p r })

/-- ASL, LSR, ROL and ROR shift A or memory by one bit through the carry.
In every mode the shifted value goes back to A in Accumulator mode and to memory otherwise, C takes the bit shifted
out, the rotates fold the old C into the vacated bit, Z and N come from the result, and no crossing costs a cycle.
Cites: R189, R190, R191, R192. -/
def Obligations.ShiftsAndRotatesMoveOneBit : Prop :=
  EncodedBy .asl [(0x0A, .acc), (0x06, .zp), (0x16, .zpx), (0x0E, .abs), (0x1E, .abx)] ∧
  EncodedBy .lsr [(0x4A, .acc), (0x46, .zp), (0x56, .zpx), (0x4E, .abs), (0x5E, .abx)] ∧
  EncodedBy .rol [(0x2A, .acc), (0x26, .zp), (0x36, .zpx), (0x2E, .abs), (0x3E, .abx)] ∧
  EncodedBy .ror [(0x6A, .acc), (0x66, .zp), (0x76, .zpx), (0x6E, .abs), (0x7E, .abx)] ∧
  Shifts .asl (fun v _ => BitVec.ofNat 8 (2 * v.toNat)) (fun v => decide (128 ≤ v.toNat)) ∧
  Shifts .lsr (fun v _ => BitVec.ofNat 8 (v.toNat / 2)) (fun v => decide (v.toNat % 2 = 1)) ∧
  Shifts .rol (fun v c => BitVec.ofNat 8 (2 * v.toNat + c.toNat)) (fun v => decide (128 ≤ v.toNat)) ∧
  Shifts .ror (fun v c => BitVec.ofNat 8 (v.toNat / 2 + 128 * c.toNat)) (fun v => decide (v.toNat % 2 = 1))

/-- The eight branches: condition, target, and 2, 3 or 4 cycles.
A branch whose condition fails goes to the next instruction in 2 cycles; one whose condition holds goes to the
address after it plus the signed offset, modulo 2^16, in 3 cycles to the same page and 4 to another; no other
register and no flag changes. Where the corner case that R220 adds for a branch at 0xFFFE counts 4 cycles and its
pseudocode 3, the pseudocode is followed (log entry 22). Cites: 43_control_stack_flags.md R220 (pseudocode),
43_control_stack_flags.md R221 (pseudocode, flags), 43_control_stack_flags.md R222 (pseudocode, flags),
43_control_stack_flags.md R223 (pseudocode, flags), 43_control_stack_flags.md R224 (pseudocode, flags),
43_control_stack_flags.md R225 (pseudocode, flags), 43_control_stack_flags.md R226 (pseudocode, flags),
43_control_stack_flags.md R227 (pseudocode, flags), 43_control_stack_flags.md R228 (pseudocode, flags). -/
def Obligations.BranchesAddTheOffset : Prop :=
  EncodedBy .bcc [(0x90, .rel)] ∧
  EncodedBy .bcs [(0xB0, .rel)] ∧
  EncodedBy .beq [(0xF0, .rel)] ∧
  EncodedBy .bne [(0xD0, .rel)] ∧
  EncodedBy .bmi [(0x30, .rel)] ∧
  EncodedBy .bpl [(0x10, .rel)] ∧
  EncodedBy .bvc [(0x50, .rel)] ∧
  EncodedBy .bvs [(0x70, .rel)] ∧
  Branches .bcc (fun p => !p.c) ∧ Branches .bcs (fun p => p.c) ∧
  Branches .beq (fun p => p.z) ∧ Branches .bne (fun p => !p.z) ∧
  Branches .bmi (fun p => p.n) ∧ Branches .bpl (fun p => !p.n) ∧
  Branches .bvc (fun p => !p.v) ∧ Branches .bvs (fun p => p.v)

/-- JMP sets PC to the resolved address, absolute or indirect, and changes nothing else.
Both forms of JMP complete with PC the resolved address; the absolute form takes 3 cycles and the indirect form 5.
Cites: R229. -/
def Obligations.JmpGoesToTheResolvedAddress : Prop :=
  EncodedBy .jmp [(0x4C, .abs), (0x6C, .ind)] ∧
  Costs [(0x4C, 3), (0x6C, 5)] ∧
  ∀ (i : Instr) (s : State), i.mnemonic = .jmp → s.halted = false →
    ∃ place, i.operand = .mem place ∧
      exec i s = .next { s with pc := (s.resolve place).addr, report := some ⟨i.baseCycles, .ok⟩ }

/-- JSR pushes the address of its last byte, high byte first, and jumps.
From an instruction at PC, JSR writes the high byte of PC + 2 at 0x0100 + SP and the low byte at 0x0100 + (SP - 1),
leaves SP - 2 modulo 256 and PC the operand, in 6 cycles; nothing else changes. Cites: R230. -/
def Obligations.JsrPushesTheReturnAddress : Prop :=
  EncodedBy .jsr [(0x20, .abs)] ∧
  ∀ (s : State) (a : Addr), s.halted = false →
    let r := s.pc + 2#16
    exec (.jsrAbs a) s = .next { (s.write (stackAddr s.sp) (highByte r)).write (stackAddr (s.sp - 1#8)) (lowByte r) with
      sp := s.sp - 2#8, pc := a, report := some ⟨6, .ok⟩ }

/-- RTS pops the low and then the high byte and continues after that address.
RTS reads the low byte at 0x0100 + (SP + 1) and the high byte at 0x0100 + (SP + 2), leaves SP + 2 modulo 256 and PC
that value plus 1 modulo 2^16, in 6 cycles; nothing else changes. Cites: 43_control_stack_flags.md R231 (operands,
encoding, pseudocode, flags). -/
def Obligations.RtsPopsTheReturnAddress : Prop :=
  EncodedBy .rts [(0x60, .imp)] ∧
  ∀ s : State, s.halted = false →
    exec .rts s = .next { s with
      sp := s.sp + 2#8
      pc := assemble (s.read (stackAddr (s.sp + 2#8))) (s.read (stackAddr (s.sp + 1#8))) + 1#16
      report := some ⟨6, .ok⟩ }

/-- BRK saves PC + 2 and the status with B and U set, sets I, and goes to the vector at 0xFFFE.
BRK, whatever I holds, pushes the high and the low byte of its address + 2 and the status byte OR 0x30, leaves SP -
3 modulo 256, sets I and no other live flag, and sets PC from the little-endian vector at 0xFFFE (0x0000 with no
cartridge), in 7 cycles; the padding byte is not read: nothing depends on it. Cites: R232, R324. -/
def Obligations.BrkTakesTheTrap : Prop :=
  EncodedBy .brk [(0x00, .imp)] ∧
  (∀ s : State, s.halted = false →
    let r := s.pc + 2#16
    let saved := ((s.write (stackAddr s.sp) (highByte r)).write (stackAddr (s.sp - 1#8)) (lowByte r)).write
      (stackAddr (s.sp - 2#8)) (s.p.toByte ||| 0x30#8)
    exec .brk s = .next { saved with
      sp := s.sp - 3#8
      p := { s.p with i := true }
      pc := assemble (s.read 0xFFFF#16) (s.read 0xFFFE#16)
      report := some ⟨7, .ok⟩ }) ∧
  ∀ s t : State, s.cart = none → exec .brk s = .next t → t.pc = 0x0000#16

/-- RTI restores the status with U = 1 and B = 0, then PC, with no adjustment.
RTI pops the status byte (C, Z, I, D, V, N from it, B forced to 0 and U to 1), then PC low, then PC high, leaves SP
+ 3 modulo 256, in 6 cycles; nothing else changes. Cites: 43_control_stack_flags.md R233 (operands, encoding,
pseudocode, flags), 60_exceptions.md R326. -/
def Obligations.RtiRestoresStatusAndPc : Prop :=
  EncodedBy .rti [(0x40, .imp)] ∧
  ∀ s : State, s.halted = false →
    let b := s.read (stackAddr (s.sp + 1#8))
    exec .rti s = .next { s with
      sp := s.sp + 3#8
      p := { n := b.getLsbD 7, v := b.getLsbD 6, u := true, b := false, d := b.getLsbD 3, i := b.getLsbD 2,
             z := b.getLsbD 1, c := b.getLsbD 0 }
      pc := assemble (s.read (stackAddr (s.sp + 3#8))) (s.read (stackAddr (s.sp + 2#8)))
      report := some ⟨6, .ok⟩ }

/-- PHA pushes A; PHP pushes the status with B and U set; no flag changes.
PHA writes A, and PHP the status byte OR 0x30, at 0x0100 + SP, and leaves SP - 1 modulo 256, in 3 cycles; the live
flags are unchanged. Cites: R234, R235. -/
def Obligations.PushInstructionsStoreOnTheStack : Prop :=
  EncodedBy .pha [(0x48, .imp)] ∧
  EncodedBy .php [(0x08, .imp)] ∧
  Costs [(0x48, 3), (0x08, 3)] ∧
  OnImplied .pha (fun s => { s.write (stackAddr s.sp) s.a with sp := s.sp - 1#8 }) ∧
  OnImplied .php (fun s => { s.write (stackAddr s.sp) (s.p.toByte ||| 0x30#8) with sp := s.sp - 1#8 })

/-- PLA pulls A and sets Z and N; PLP pulls the status with B = 0 and U = 1.
Both read the byte at 0x0100 + (SP + 1) and leave SP + 1 modulo 256, in 4 cycles; PLA loads A and sets Z and N from
it; PLP loads C, Z, I, D, V, N from it and forces B to 0 and U to 1. Cites: 43_control_stack_flags.md R236,
43_control_stack_flags.md R237 (pseudocode and flags). -/
def Obligations.PullInstructionsLoadFromTheStack : Prop :=
  EncodedBy .pla [(0x68, .imp)] ∧
  EncodedBy .plp [(0x28, .imp)] ∧
  Costs [(0x68, 4), (0x28, 4)] ∧
  OnImplied .pla (fun s => let b := s.read (stackAddr (s.sp + 1#8))
    { s with a := b, sp := s.sp + 1#8, p := nz s.p b }) ∧
  OnImplied .plp (fun s => let b := s.read (stackAddr (s.sp + 1#8))
    { s with
      sp := s.sp + 1#8
      p := { n := b.getLsbD 7, v := b.getLsbD 6, u := true, b := false, d := b.getLsbD 3, i := b.getLsbD 2,
             z := b.getLsbD 1, c := b.getLsbD 0 } })

/-- CLC, CLD, CLI, CLV, SEC, SED and SEI change exactly one flag.
Each of the seven sets or clears its flag, in 2 cycles, and changes nothing else but PC; V goes from 0 to 1 only
under ADC, SBC (USBC with it), BIT, PLP, RTI, RRA, ISC and ARR. Cites: R238, R241, R242, R244. -/
def Obligations.FlagInstructionsChangeOneFlag : Prop :=
  EncodedBy .clc [(0x18, .imp)] ∧
  EncodedBy .cld [(0xD8, .imp)] ∧
  EncodedBy .cli [(0x58, .imp)] ∧
  EncodedBy .clv [(0xB8, .imp)] ∧
  EncodedBy .sec [(0x38, .imp)] ∧
  EncodedBy .sed [(0xF8, .imp)] ∧
  EncodedBy .sei [(0x78, .imp)] ∧
  Costs [(0x18, 2), (0xD8, 2), (0x58, 2), (0xB8, 2), (0x38, 2), (0xF8, 2), (0x78, 2)] ∧
  OnImplied .clc (fun s => { s with p := { s.p with c := false } }) ∧
  OnImplied .cld (fun s => { s with p := { s.p with d := false } }) ∧
  OnImplied .cli (fun s => { s with p := { s.p with i := false } }) ∧
  OnImplied .clv (fun s => { s with p := { s.p with v := false } }) ∧
  OnImplied .sec (fun s => { s with p := { s.p with c := true } }) ∧
  OnImplied .sed (fun s => { s with p := { s.p with d := true } }) ∧
  OnImplied .sei (fun s => { s with p := { s.p with i := true } }) ∧
  ∀ (i : Instr) (s t : State), exec i s = .next t → s.p.v = false → t.p.v = true →
    i.mnemonic ∈ [.adc, .sbc, .bit, .plp, .rti, .rra, .isc, .arr]

/-- NOP and its 27 aliases only advance PC, by their mode's length.
Every NOP, documented or alias, in every mode, completes with PC past it and nothing else changed; an Absolute,X
alias that crosses a page takes one cycle more. Cites: R245, R292. -/
def Obligations.NopsOnlyAdvance : Prop :=
  EncodedBy .nop [(0xEA, .imp), (0x1A, .imp), (0x3A, .imp), (0x5A, .imp), (0x7A, .imp), (0xDA, .imp),
    (0xFA, .imp), (0x80, .imm), (0x82, .imm), (0x89, .imm), (0xC2, .imm), (0xE2, .imm), (0x04, .zp),
    (0x44, .zp), (0x64, .zp), (0x14, .zpx), (0x34, .zpx), (0x54, .zpx), (0x74, .zpx), (0xD4, .zpx),
    (0xF4, .zpx), (0x0C, .abs), (0x1C, .abx), (0x3C, .abx), (0x5C, .abx), (0x7C, .abx), (0xDC, .abx),
    (0xFC, .abx)] ∧
  Costs [(0xEA, 2), (0x1A, 2), (0x3A, 2), (0x5A, 2), (0x7A, 2), (0xDA, 2), (0xFA, 2), (0x80, 2), (0x82, 2), (0x89, 2),
    (0xC2, 2), (0xE2, 2), (0x04, 3), (0x44, 3), (0x64, 3), (0x14, 4), (0x34, 4), (0x54, 4), (0x74, 4), (0xD4, 4),
    (0xF4, 4), (0x0C, 4), (0x1C, 4), (0x3C, 4), (0x5C, 4), (0x7C, 4), (0xDC, 4), (0xFC, 4)] ∧
  ∀ (i : Instr) (s : State), i.mnemonic = .nop → s.halted = false → exec i s = completed i true s s

/-- SLO, RLA and SRE shift memory and combine the result into A.
In every mode the byte at the resolved address is shifted or rotated one bit and written back, C takes the bit
shifted out, A is ORed, ANDed or XORed with the written byte, Z and N come from the new A; no crossing costs a
cycle. Cites: R271, R272, R273. -/
def Obligations.SloRlaSreShiftThenCombine : Prop :=
  EncodedBy .slo [(0x07, .zp), (0x17, .zpx), (0x0F, .abs), (0x1F, .abx), (0x1B, .aby), (0x03, .izx), (0x13, .izy)] ∧
  EncodedBy .rla [(0x27, .zp), (0x37, .zpx), (0x2F, .abs), (0x3F, .abx), (0x3B, .aby), (0x23, .izx), (0x33, .izy)] ∧
  EncodedBy .sre [(0x47, .zp), (0x57, .zpx), (0x4F, .abs), (0x5F, .abx), (0x5B, .aby), (0x43, .izx), (0x53, .izy)] ∧
  OnAddress .slo (fun a s => let m := s.read a
    let r := BitVec.ofNat 8 (2 * m.toNat)
    { s.write a r with a := s.a ||| r, p := nz { s.p with c := decide (128 ≤ m.toNat) } (s.a ||| r) }) ∧
  OnAddress .rla (fun a s => let m := s.read a
    let r := BitVec.ofNat 8 (2 * m.toNat + s.p.c.toNat)
    { s.write a r with a := s.a &&& r, p := nz { s.p with c := decide (128 ≤ m.toNat) } (s.a &&& r) }) ∧
  OnAddress .sre (fun a s => let m := s.read a
    let r := BitVec.ofNat 8 (m.toNat / 2)
    { s.write a r with a := s.a ^^^ r, p := nz { s.p with c := decide (m.toNat % 2 = 1) } (s.a ^^^ r) })

/-- RRA, DCP and ISC change memory and then add, compare or subtract.
In every mode the byte at the resolved address is rotated right through C, decremented or incremented and written
back; then RRA adds it with the carry the rotate wrote, DCP compares A with it, and ISC subtracts it with the old
carry; no crossing costs a cycle. Cites: R274, R275, R276. -/
def Obligations.RraDcpIscChangeThenCompute : Prop :=
  EncodedBy .rra [(0x67, .zp), (0x77, .zpx), (0x6F, .abs), (0x7F, .abx), (0x7B, .aby), (0x63, .izx), (0x73, .izy)] ∧
  EncodedBy .dcp [(0xC7, .zp), (0xD7, .zpx), (0xCF, .abs), (0xDF, .abx), (0xDB, .aby), (0xC3, .izx), (0xD3, .izy)] ∧
  EncodedBy .isc [(0xE7, .zp), (0xF7, .zpx), (0xEF, .abs), (0xFF, .abx), (0xFB, .aby), (0xE3, .izx), (0xF3, .izy)] ∧
  OnAddress .rra (fun a s => let m := s.read a
    let r := BitVec.ofNat 8 (m.toNat / 2 + 128 * s.p.c.toNat)
    added r { s.write a r with p := { s.p with c := decide (m.toNat % 2 = 1) } }) ∧
  OnAddress .dcp (fun a s => let r := BitVec.ofInt 8 ((s.read a).toNat - 1)
    compared s.a r (s.write a r)) ∧
  OnAddress .isc (fun a s => let r := BitVec.ofNat 8 ((s.read a).toNat + 1)
    subtracted r (s.write a r))

/-- LAX loads A and X; SAX stores A AND X; LAS loads memory AND SP to A, X and SP.
In every mode LAX loads the operand byte into A and X with Z and N from it; SAX writes A AND X at the resolved
address and changes no flag; LAS puts the operand AND SP into A, X and SP with Z and N from it; LAX and LAS may
gain a cycle on a crossing, SAX not. Cites: R277, R278, R290. -/
def Obligations.LaxSaxLasMoveSeveralRegisters : Prop :=
  EncodedBy .lax [(0xA7, .zp), (0xB7, .zpy), (0xAF, .abs), (0xBF, .aby), (0xA3, .izx), (0xB3, .izy)] ∧
  EncodedBy .sax [(0x87, .zp), (0x97, .zpy), (0x8F, .abs), (0x83, .izx)] ∧
  EncodedBy .las [(0xBB, .aby)] ∧
  Costs [(0xA7, 3), (0xB7, 4), (0xAF, 4), (0xBF, 4), (0xA3, 6), (0xB3, 5), (0x87, 3), (0x97, 4), (0x8F, 4), (0x83, 6),
    (0xBB, 4)] ∧
  OnByte .lax true (fun m s => { s with a := m, x := m, p := nz s.p m }) ∧
  OnAddress .sax (fun a s => s.write a (s.a &&& s.x)) ∧
  OnByte .las true (fun m s => let v := m &&& s.sp
    { s with a := v, x := v, sp := v, p := nz s.p v })

/-- ANC, ALR, ARR and SBX: results and flags by value.
ANC takes A AND m and copies N to C; ALR then shifts it right; ARR rotates it right through C with C from bit 6 and
V from bits 6 and 5 of the result; SBX puts (A AND X) - m into X with C when there is no borrow; Z and N come from
the result, and no other flag and no other register but PC changes. Cites: R279, R280, R281, R282. -/
def Obligations.AncAlrArrSbxOnTheAccumulator : Prop :=
  EncodedBy .anc [(0x0B, .imm), (0x2B, .imm)] ∧
  EncodedBy .alr [(0x4B, .imm)] ∧
  EncodedBy .arr [(0x6B, .imm)] ∧
  EncodedBy .sbx [(0xCB, .imm)] ∧
  OnByte .anc false (fun m s => let r := s.a &&& m
    { s with a := r, p := nz { s.p with c := decide (128 ≤ r.toNat) } r }) ∧
  OnByte .alr false (fun m s => let t := s.a &&& m
    let r := BitVec.ofNat 8 (t.toNat / 2)
    { s with a := r, p := nz { s.p with c := decide (t.toNat % 2 = 1) } r }) ∧
  OnByte .arr false (fun m s => let t := s.a &&& m
    let r := BitVec.ofNat 8 (t.toNat / 2 + 128 * s.p.c.toNat)
    { s with a := r, p := nz { s.p with c := r.getLsbD 6, v := r.getLsbD 6 ^^ r.getLsbD 5 } r }) ∧
  OnByte .sbx false (fun m s => let t := s.a &&& s.x
    let r := BitVec.ofInt 8 ((t.toNat : Int) - m.toNat)
    { s with x := r, p := nz { s.p with c := decide (m.toNat ≤ t.toNat) } r })

/-- ANE and LXA with their OPEN constants, and the results that do not depend on them.
ANE sets A to (A OR ANE_CONST) AND X AND m, LXA sets A and X to (A OR LXA_CONST) AND m, with Z and N from the
result; for A = 0xFF the result is X AND m, or m, whatever the constant, and for X AND m = 0, or m = 0, it is 0.
Cites: R283, R284. -/
def Obligations.AneLxaUseTheOpenConstants : Prop :=
  EncodedBy .ane [(0x8B, .imm)] ∧
  EncodedBy .lxa [(0xAB, .imm)] ∧
  OnByte .ane false (fun m s => let v := (s.a ||| Config.aneConst) &&& s.x &&& m
    { s with a := v, p := nz s.p v }) ∧
  OnByte .lxa false (fun m s => let v := (s.a ||| Config.lxaConst) &&& m
    { s with a := v, x := v, p := nz s.p v }) ∧
  (∀ (m : Byte) (s t : State), exec (.aneImm m) s = .next t →
    (s.a = 0xFF#8 → t.a = s.x &&& m) ∧ (s.x &&& m = 0x00#8 → t.a = 0x00#8)) ∧
  ∀ (m : Byte) (s t : State), exec (.lxaImm m) s = .next t →
    (s.a = 0xFF#8 → t.a = m ∧ t.x = m) ∧ (m = 0x00#8 → t.a = 0x00#8 ∧ t.x = 0x00#8)

/-- SHA, SHX, SHY and TAS store the register AND one more than the base address's high byte.
In every mode the stored byte is the register value AND (H + 1), H the high byte of the address before indexing; it
is stored at the resolved address, or, when the index crossed a page, at that byte as high byte with the resolved
low byte; TAS first sets SP to A AND X; no flag changes and no crossing costs a cycle. Cites: R285, R286, R287,
R288, R289. -/
def Obligations.HighAndStoresMaskWithTheBasePage : Prop :=
  EncodedBy .sha [(0x9F, .aby), (0x93, .izy)] ∧
  EncodedBy .shx [(0x9E, .aby)] ∧
  EncodedBy .shy [(0x9C, .abx)] ∧
  EncodedBy .tas [(0x9B, .aby)] ∧
  Costs [(0x9F, 5), (0x93, 6), (0x9E, 5), (0x9C, 5), (0x9B, 5)] ∧
  HighAndStores .sha id (fun s => s.a &&& s.x) ∧
  HighAndStores .shx id (fun s => s.x) ∧
  HighAndStores .shy id (fun s => s.y) ∧
  HighAndStores .tas (fun s => { s with sp := s.a &&& s.x }) (fun s => s.a &&& s.x)

/-- Each register, RAM and halted change only under the instructions that the summary table names.
For every instruction and state: A changes only under the mnemonics of row A (the four shifts only in Accumulator
mode), X, Y and SP only under their rows, RAM only under its row, halted only under JAM, and PC is past the
instruction except under the control transfers; the cartridge never changes. Cites: 10_state.md R43. -/
def Obligations.RegisterWriteSets : Prop :=
  ∀ (i : Instr) (s t : State), exec i s = .next t →
    (i.mnemonic ∉ [.lda, .txa, .tya, .pla, .adc, .sbc, .and, .ora, .eor, .slo, .rla, .sre, .rra, .isc, .lax, .anc, .alr,
          .arr, .ane, .lxa, .las] →
      (i.mnemonic ∈ [.asl, .lsr, .rol, .ror] → i.operand ≠ .acc) → t.a = s.a) ∧
    (i.mnemonic ∉ [.ldx, .tax, .tsx, .inx, .dex, .lax, .sbx, .lxa, .las] → t.x = s.x) ∧
    (i.mnemonic ∉ [.ldy, .tay, .iny, .dey] → t.y = s.y) ∧
    (i.mnemonic ∉ [.txs, .pha, .php, .pla, .plp, .jsr, .rts, .brk, .rti, .tas, .las] → t.sp = s.sp) ∧
    (i.mnemonic ∉ [.sta, .stx, .sty, .inc, .dec, .asl, .lsr, .rol, .ror, .pha, .php, .jsr, .brk, .slo, .rla, .sre, .rra,
          .dcp, .isc, .sax, .sha, .shx, .shy, .tas] →
      t.ram = s.ram) ∧
    (i.mnemonic ∈ [.asl, .lsr, .rol, .ror] → i.operand = .acc → t.ram = s.ram) ∧
    (i.mnemonic ≠ .jam → t.halted = s.halted) ∧
    (i.mnemonic ∉ transfers → t.pc = s.pc + BitVec.ofNat 16 i.operand.length) ∧
    t.cart = s.cart

/-- Each status flag changes only under the instructions whose row names it.
For every instruction and state, a flag that the flags column of the opcode list does not name for the mnemonic is
unchanged, and U and B are unchanged except that PLP and RTI leave U = 1 and B = 0. Cites: 30_encoding.md R84
(column flags), 10_state.md R26-R33. -/
def Obligations.FlagWriteSets : Prop :=
  ∀ (i : Instr) (s t : State), exec i s = .next t →
    (i.mnemonic ∉ writesN → t.p.n = s.p.n) ∧ (i.mnemonic ∉ writesV → t.p.v = s.p.v) ∧
    (i.mnemonic ∉ writesD → t.p.d = s.p.d) ∧ (i.mnemonic ∉ writesI → t.p.i = s.p.i) ∧
    (i.mnemonic ∉ writesZ → t.p.z = s.p.z) ∧ (i.mnemonic ∉ writesC → t.p.c = s.p.c) ∧
    (i.mnemonic ∉ [.plp, .rti] → t.p.u = s.p.u ∧ t.p.b = s.p.b) ∧
    (i.mnemonic ∈ [.plp, .rti] → t.p.u = true ∧ t.p.b = false)

/-- Every byte of memory is unchanged except the bytes an instruction stores to.
For every instruction and state, every address that is not an alias of an address the instruction stores to,
computed with the meaning's own functions, reads after it as before; an instruction that stores nothing leaves
every address. Cites: 20_memory.md R52, 20_memory.md R65, 10_state.md R43. -/
def Obligations.MemoryFrameOfEveryInstruction : Prop :=
  ∀ (i : Instr) (s t : State), exec i s = .next t →
    ∀ b : Addr, (∀ a ∈ storedAddresses i s, ¬ sameRamByte a b) → t.read b = s.read b

/-- A JSR followed by RTS returns to the address after the JSR with SP unchanged.
For every state and target, executing JSR and then RTS gives PC the JSR's address + 3, the old SP, the old A, X, Y
and P, also when SP wraps. Cites: 43_control_stack_flags.md R231, 95_test_vectors.md L1.9, 90_conflicts.md C3. -/
def Obligations.JsrThenRtsReturns : Prop :=
  ∀ (s : State) (a : Addr), ∃ t u, exec (.jsrAbs a) s = .next t ∧ t.pc = a ∧ exec .rts t = .next u ∧
    u.pc = s.pc + 3#16 ∧ u.sp = s.sp ∧ u.a = s.a ∧ u.x = s.x ∧ u.y = s.y ∧ u.p = s.p

/-- A BRK followed by RTI resumes at the BRK's address + 2 with the status restored.
For every state whose live status has U = 1 and B = 0, executing BRK and then RTI gives PC the BRK's address + 2,
the old SP and the old P, I included, also when SP wraps. Cites: 43_control_stack_flags.md R233, 60_exceptions.md
R326. -/
def Obligations.BrkThenRtiReturns : Prop :=
  ∀ s : State, s.StatusOk → ∃ t u, exec .brk s = .next t ∧ exec .rti t = .next u ∧
    u.pc = s.pc + 2#16 ∧ u.sp = s.sp ∧ u.p = s.p ∧ u.a = s.a ∧ u.x = s.x ∧ u.y = s.y

/-- PHP then PLP leaves P unchanged; PHA then PLA leaves A unchanged; SP returns.
For every state whose live status has U = 1 and B = 0, PHP then PLP restores P and SP; for every state, PHA then
PLA restores A and SP and sets Z and N from A. Cites: 43_control_stack_flags.md R236, 43_control_stack_flags.md
R237. -/
def Obligations.PushThenPullRestores : Prop :=
  (∀ s : State, s.StatusOk → ∃ t u, exec .php s = .next t ∧ exec .plp t = .next u ∧ u.p = s.p ∧ u.sp = s.sp) ∧
  ∀ s : State, ∃ t u, exec .pha s = .next t ∧ exec .pla t = .next u ∧ u.a = s.a ∧ u.sp = s.sp ∧ u.p = nz s.p s.a

/-- D changes no result: it only travels with the status.
For every instruction other than PHP and BRK, which push it: an instruction that does not write D gives the same
next state but for D itself, and one that writes D gives the same next state. Cites: 10_state.md R29,
42_arith_logic_shift.md R170, 92_eei_decisions.md D19. -/
def Obligations.DecimalModeIsInert : Prop :=
  ∀ (i : Instr) (s : State) (d : Bool), i.mnemonic ∉ [.php, .brk] →
    (i.mnemonic ∉ writesD → exec i (withD d s) = mapNext (withD d) (exec i s)) ∧
    (i.mnemonic ∈ writesD → exec i (withD d s) = exec i s)

/-- I decides nothing: no instruction but the pushes depends on it.
For every instruction other than PHP and BRK, which push it: an instruction that does not write I gives the same
next state but for I itself, and one that writes I gives the same next state; BRK sets I and goes to the same PC
and SP whatever I holds. Cites: 10_state.md R28, 60_exceptions.md R322. -/
def Obligations.InterruptDisableMasksNothing : Prop :=
  (∀ (i : Instr) (s : State) (d : Bool), i.mnemonic ∉ [.php, .brk] →
    (i.mnemonic ∉ writesI → exec i (withI d s) = mapNext (withI d) (exec i s)) ∧
    (i.mnemonic ∈ writesI → exec i (withI d s) = exec i s)) ∧
  ∀ (s t u : State) (d : Bool), exec .brk s = .next t → exec .brk (withI d s) = .next u →
    u.pc = t.pc ∧ u.sp = t.sp ∧ u.p = t.p ∧ t.p.i = true
end

