-- ==== Sys2Proof/Laws/Bits.lean ====
section
/-! SUPPORT. Laws of the bit-field helpers. -/

namespace Sys2Proof.Machine

@[simp] theorem highByte_assemble (hi lo : Byte) : highByte (assemble hi lo) = hi := by
  ext k hk
  simp only [highByte, assemble, BitVec.getElem_extractLsb', BitVec.getLsbD_append]
  simp [BitVec.getLsbD_eq_getElem hk]

@[simp] theorem lowByte_assemble (hi lo : Byte) : lowByte (assemble hi lo) = lo := by
  ext k hk
  simp only [lowByte, assemble, BitVec.getElem_extractLsb', BitVec.getLsbD_append]
  simp [hk]

@[simp] theorem assemble_high_low (a : Addr) : assemble (highByte a) (lowByte a) = a := by
  apply BitVec.eq_of_toNat_eq
  simp only [assemble, highByte, lowByte, BitVec.toNat_append, BitVec.extractLsb'_toNat, Nat.shiftRight_zero]
  rw [← Nat.shiftLeft_add_eq_or_of_lt (Nat.mod_lt _ (by decide)), Nat.shiftRight_eq_div_pow, Nat.shiftLeft_eq]
  have := a.isLt
  omega

/-- `a[15:8]` as a number. -/
theorem highByte_toNat (a : Addr) : (highByte a).toNat = a.toNat / 256 := by
  have := a.isLt
  simp only [highByte, BitVec.extractLsb'_toNat, Nat.shiftRight_eq_div_pow]
  omega

/-- `a[7:0]` as a number. -/
theorem lowByte_toNat (a : Addr) : (lowByte a).toNat = a.toNat % 256 := by
  simp [lowByte, BitVec.extractLsb'_toNat]

/-- `hi ++ lo` as a number. -/
theorem assemble_toNat (hi lo : Byte) : (assemble hi lo).toNat = 256 * hi.toNat + lo.toNat := by
  simp only [assemble, BitVec.toNat_append]
  rw [← Nat.shiftLeft_add_eq_or_of_lt lo.isLt, Nat.shiftLeft_eq]
  omega

@[simp] theorem zext16_toNat (b : Byte) : (zext16 b).toNat = b.toNat := by
  have := b.isLt
  simp only [zext16, BitVec.toNat_setWidth]
  omega

@[simp] theorem zext16_inj (b c : Byte) : zext16 b = zext16 c ↔ b = c := by
  constructor
  · intro h
    have := congrArg BitVec.toNat h
    simp only [zext16_toNat] at this
    exact BitVec.eq_of_toNat_eq this
  · rintro rfl; rfl

end Sys2Proof.Machine
end

