-- ==== Sys2Proof/Laws/Decode.lean ====
section
/-! SUPPORT. The opcode map and the instruction table agree, entry by entry. -/

namespace Sys2Proof

open Machine (assemble highByte lowByte)

/-- An entry of the opcode map builds instructions whose encoding begins with its opcode and holds its operand bytes. -/
def Form.Encodes (op : Byte) : Form → Prop
  | .fixed i => encode i = [op]
  | .byte f => ∀ b, encode (f b) = [op, b]
  | .word f => ∀ a, encode (f a) = [op, lowByte a, highByte a]

/-- Every entry of the opcode map is read back by the instruction table (30_encoding.md R84). -/
theorem formOf_encodes (op : Byte) : (formOf op).Encodes op := by
  obtain ⟨⟨n, hn⟩⟩ := op
  simp only [Nat.reducePow] at hn
  interval_cases n
  all_goals first
    | exact rfl
    | exact fun _ => rfl

end Sys2Proof
end

