-- ==== Sys2Proof/Laws/Memory.lean ====
section
/-! SUPPORT. Laws of a byte storage: read after write, and the canonical form. -/

namespace Sys2Proof.Machine

@[simp] theorem Memory.read_nil (a : Nat) : Memory.read [] a = Memory.unlisted := rfl

theorem Memory.read_filter (m : Memory) (a b : Nat) :
    Memory.read (m.filter (fun cell => cell.1 != a)) b = if b = a then Memory.unlisted else Memory.read m b := by
  induction m with
  | nil => simp
  | cons c rest ih =>
    obtain ⟨k, v⟩ := c
    by_cases hk : k = a
    · subst hk
      simp only [List.filter_cons, bne_self_eq_false, Bool.false_eq_true, if_false, ih]
      by_cases hb : b = k
      · simp [hb]
      · simp [hb, Memory.read, Ne.symm hb]
    · simp only [List.filter_cons, bne_iff_ne, ne_eq, hk, not_false_eq_true, if_true, Memory.read, ih]
      by_cases hb : b = a
      · subst hb; simp [hk]
      · simp [hb]

theorem Memory.read_insertCell (m : Memory) (a b : Nat) (v : Byte) (fresh : ∀ c ∈ m, c.1 ≠ a) :
    Memory.read (Memory.insertCell a v m) b = if b = a then v else Memory.read m b := by
  induction m with
  | nil =>
    by_cases hb : b = a
    · simp [Memory.insertCell, Memory.read, hb]
    · simp [Memory.insertCell, Memory.read, hb, Ne.symm hb]
  | cons c rest ih =>
    obtain ⟨k, w⟩ := c
    have hk : k ≠ a := fresh (k, w) (by simp)
    have ih := ih (fun d hd => fresh d (by simp [hd]))
    unfold Memory.insertCell
    split
    · by_cases hb : b = a
      · simp [Memory.read, hb]
      · simp only [Memory.read, hb, if_false, Ne.symm hb]
    · simp only [Memory.read, ih]
      by_cases hb : b = a
      · subst hb; simp [hk]
      · simp [hb]

/-- A write is seen by a read of its offset and by no other read. -/
theorem Memory.read_write (m : Memory) (a b : Nat) (v : Byte) :
    Memory.read (m.write a v) b = if b = a then v else Memory.read m b := by
  unfold Memory.write
  dsimp only
  split
  · next h => rw [Memory.read_filter, h]
  · rw [Memory.read_insertCell _ _ _ _ (by intro c hc; simpa using (List.mem_filter.mp hc).2), Memory.read_filter]
    by_cases hb : b = a <;> simp [hb]

theorem Memory.mem_insertCell (m : Memory) (a : Nat) (v : Byte) (c : Host.Cell) :
    c ∈ Memory.insertCell a v m ↔ c = (a, v) ∨ c ∈ m := by
  induction m with
  | nil => simp [Memory.insertCell]
  | cons d rest ih =>
    unfold Memory.insertCell
    split
    · simp
    · simp only [List.mem_cons, ih]; tauto

theorem Memory.insertCell_pairwise (m : Memory) (a : Nat) (v : Byte) (fresh : ∀ c ∈ m, c.1 ≠ a)
    (h : m.Pairwise (fun c d => c.1 < d.1)) : (Memory.insertCell a v m).Pairwise (fun c d => c.1 < d.1) := by
  induction m with
  | nil => simp [Memory.insertCell]
  | cons c rest ih =>
    have hc := List.pairwise_cons.mp h
    have hne : c.1 ≠ a := fresh c (by simp)
    unfold Memory.insertCell
    split
    · next hlt =>
      refine List.pairwise_cons.mpr ⟨?_, h⟩
      intro d hd
      rcases List.mem_cons.mp hd with rfl | hd
      · exact hlt
      · exact Nat.lt_trans hlt (hc.1 d hd)
    · next hlt =>
      refine List.pairwise_cons.mpr ⟨?_, ih (fun d hd => fresh d (by simp [hd])) hc.2⟩
      intro d hd
      rcases (Memory.mem_insertCell rest a v d).mp hd with rfl | hd
      · exact Nat.lt_of_le_of_ne (Nat.le_of_not_lt hlt) hne
      · exact hc.1 d hd

/-- Every write keeps the canonical form. -/
theorem Memory.wf_write (size : Nat) (m : Memory) (a : Nat) (v : Byte) (h : m.wf size) (ha : a < size) :
    (m.write a v).wf size := by
  have hf : Memory.wf size (m.filter (fun cell => cell.1 != a)) :=
    ⟨h.1.filter _, fun c hc => h.2 c (List.mem_filter.mp hc).1⟩
  unfold Memory.write
  dsimp only
  split
  · exact hf
  · next hv =>
    refine ⟨Memory.insertCell_pairwise _ _ _ (by intro c hc; simpa using (List.mem_filter.mp hc).2) hf.1, ?_⟩
    intro c hc
    rcases (Memory.mem_insertCell _ a v c).mp hc with rfl | hc
    · exact ⟨ha, hv⟩
    · exact hf.2 c hc

theorem Memory.cellsFrom_bounds (k : Nat) (bytes : List Byte) :
    ∀ c ∈ Memory.cellsFrom k bytes, k ≤ c.1 ∧ c.1 < k + bytes.length ∧ c.2 ≠ Memory.unlisted := by
  induction bytes generalizing k with
  | nil => simp [Memory.cellsFrom]
  | cons b rest ih =>
    intro c hc
    unfold Memory.cellsFrom at hc
    have later : ∀ c ∈ Memory.cellsFrom (k + 1) rest, k ≤ c.1 ∧ c.1 < k + (b :: rest).length ∧
        c.2 ≠ Memory.unlisted := fun c hc => by
      have := ih (k + 1) c hc
      simp only [List.length_cons]
      exact ⟨by omega, by omega, this.2.2⟩
    split at hc
    · exact later c hc
    · next hb =>
      rcases List.mem_cons.mp hc with rfl | hc
      · exact ⟨Nat.le_refl _, by simp, hb⟩
      · exact later c hc

/-- The cells of a list of bytes are in canonical form. -/
theorem Memory.wf_cellsFrom (bytes : List Byte) : (Memory.cellsFrom 0 bytes).wf bytes.length := by
  refine ⟨?_, fun c hc => ?_⟩
  · suffices ∀ k, (Memory.cellsFrom k bytes).Pairwise (fun c d => c.1 < d.1) from this 0
    induction bytes with
    | nil => intro k; simp [Memory.cellsFrom]
    | cons b rest ih =>
      intro k
      unfold Memory.cellsFrom
      split
      · exact ih _
      · refine List.pairwise_cons.mpr ⟨fun d hd => ?_, ih _⟩
        exact (Memory.cellsFrom_bounds _ _ d hd).1
  · have := Memory.cellsFrom_bounds 0 bytes c hc
    exact ⟨by omega, this.2.2⟩

theorem ramIndex_lt (a : Addr) : ramIndex a < ramSize := by
  unfold ramIndex ramSize
  rw [BitVec.toNat_and]
  exact Nat.lt_of_le_of_lt Nat.and_le_right (by decide)

/-- `address & 0x07FF` is the address modulo 2048. -/
theorem ramIndex_eq_mod (a : Addr) : ramIndex a = a.toNat % 2048 := by
  unfold ramIndex
  rw [BitVec.toNat_and]
  exact Nat.and_two_pow_sub_one_eq_mod a.toNat 11

/-- Every bus write keeps work RAM in canonical form. -/
theorem wf_busWrite (ram : Memory) (a : Addr) (v : Byte) (h : ram.wf ramSize) : (busWrite ram a v).wf ramSize := by
  unfold busWrite
  split
  · exact Memory.wf_write _ _ _ _ h (ramIndex_lt a)
  all_goals exact h

/-- What a read sees after a bus write: the byte written, where both addresses are of work RAM and share a RAM byte. -/
theorem busRead_busWrite (ram : Memory) (cart : Option Cartridge) (a b : Addr) (v : Byte) :
    busRead (busWrite ram a v) cart b =
      if regionOf a = .workRam ∧ regionOf b = .workRam ∧ ramIndex b = ramIndex a then v else busRead ram cart b := by
  cases ha : regionOf a <;> cases hb : regionOf b <;> simp [busRead, busWrite, ha, hb, Memory.read_write]

theorem regionOf_workRam (a : Addr) : regionOf a = .workRam ↔ a.toNat ≤ 0x1FFF := by
  unfold regionOf
  repeat' split
  all_goals simp_all

end Sys2Proof.Machine
end

