-- ==== Sys2Proof/Laws/State.lean ====
section
/-! SUPPORT. One lemma per field of State per named update, true by rfl; then what the named reads see. -/

namespace Sys2Proof.Machine

@[simp] theorem State.write_a (s : State) (addr : Addr) (v : Byte) : (s.write addr v).a = s.a := rfl
@[simp] theorem State.write_x (s : State) (addr : Addr) (v : Byte) : (s.write addr v).x = s.x := rfl
@[simp] theorem State.write_y (s : State) (addr : Addr) (v : Byte) : (s.write addr v).y = s.y := rfl
@[simp] theorem State.write_sp (s : State) (addr : Addr) (v : Byte) : (s.write addr v).sp = s.sp := rfl
@[simp] theorem State.write_pc (s : State) (addr : Addr) (v : Byte) : (s.write addr v).pc = s.pc := rfl
@[simp] theorem State.write_p (s : State) (addr : Addr) (v : Byte) : (s.write addr v).p = s.p := rfl
@[simp] theorem State.write_halted (s : State) (addr : Addr) (v : Byte) : (s.write addr v).halted = s.halted := rfl
@[simp] theorem State.write_ram (s : State) (addr : Addr) (v : Byte) : (s.write addr v).ram = busWrite s.ram addr v := rfl
@[simp] theorem State.write_cart (s : State) (addr : Addr) (v : Byte) : (s.write addr v).cart = s.cart := rfl
@[simp] theorem State.write_report (s : State) (addr : Addr) (v : Byte) : (s.write addr v).report = s.report := rfl

@[simp] theorem State.push_a (s : State) (v : Byte) : (s.push v).a = s.a := rfl
@[simp] theorem State.push_x (s : State) (v : Byte) : (s.push v).x = s.x := rfl
@[simp] theorem State.push_y (s : State) (v : Byte) : (s.push v).y = s.y := rfl
@[simp] theorem State.push_sp (s : State) (v : Byte) : (s.push v).sp = s.sp - 1#8 := rfl
@[simp] theorem State.push_pc (s : State) (v : Byte) : (s.push v).pc = s.pc := rfl
@[simp] theorem State.push_p (s : State) (v : Byte) : (s.push v).p = s.p := rfl
@[simp] theorem State.push_halted (s : State) (v : Byte) : (s.push v).halted = s.halted := rfl
@[simp] theorem State.push_ram (s : State) (v : Byte) : (s.push v).ram = busWrite s.ram (stackAddr s.sp) v := rfl
@[simp] theorem State.push_cart (s : State) (v : Byte) : (s.push v).cart = s.cart := rfl
@[simp] theorem State.push_report (s : State) (v : Byte) : (s.push v).report = s.report := rfl

@[simp] theorem State.pushAddr_a (s : State) (addr : Addr) : (s.pushAddr addr).a = s.a := rfl
@[simp] theorem State.pushAddr_x (s : State) (addr : Addr) : (s.pushAddr addr).x = s.x := rfl
@[simp] theorem State.pushAddr_y (s : State) (addr : Addr) : (s.pushAddr addr).y = s.y := rfl
@[simp] theorem State.pushAddr_sp (s : State) (addr : Addr) : (s.pushAddr addr).sp = s.sp - 1#8 - 1#8 := rfl
@[simp] theorem State.pushAddr_pc (s : State) (addr : Addr) : (s.pushAddr addr).pc = s.pc := rfl
@[simp] theorem State.pushAddr_p (s : State) (addr : Addr) : (s.pushAddr addr).p = s.p := rfl
@[simp] theorem State.pushAddr_halted (s : State) (addr : Addr) : (s.pushAddr addr).halted = s.halted := rfl
@[simp] theorem State.pushAddr_ram (s : State) (addr : Addr) : (s.pushAddr addr).ram = busWrite (busWrite s.ram (stackAddr s.sp) (highByte addr)) (stackAddr (s.sp - 1#8)) (lowByte addr) := rfl
@[simp] theorem State.pushAddr_cart (s : State) (addr : Addr) : (s.pushAddr addr).cart = s.cart := rfl
@[simp] theorem State.pushAddr_report (s : State) (addr : Addr) : (s.pushAddr addr).report = s.report := rfl

@[simp] theorem State.popped_a (s : State) : (s.popped).a = s.a := rfl
@[simp] theorem State.popped_x (s : State) : (s.popped).x = s.x := rfl
@[simp] theorem State.popped_y (s : State) : (s.popped).y = s.y := rfl
@[simp] theorem State.popped_sp (s : State) : (s.popped).sp = s.sp + 1#8 := rfl
@[simp] theorem State.popped_pc (s : State) : (s.popped).pc = s.pc := rfl
@[simp] theorem State.popped_p (s : State) : (s.popped).p = s.p := rfl
@[simp] theorem State.popped_halted (s : State) : (s.popped).halted = s.halted := rfl
@[simp] theorem State.popped_ram (s : State) : (s.popped).ram = s.ram := rfl
@[simp] theorem State.popped_cart (s : State) : (s.popped).cart = s.cart := rfl
@[simp] theorem State.popped_report (s : State) : (s.popped).report = s.report := rfl

@[simp] theorem State.advance_a (s : State) (n : Nat) : (s.advance n).a = s.a := rfl
@[simp] theorem State.advance_x (s : State) (n : Nat) : (s.advance n).x = s.x := rfl
@[simp] theorem State.advance_y (s : State) (n : Nat) : (s.advance n).y = s.y := rfl
@[simp] theorem State.advance_sp (s : State) (n : Nat) : (s.advance n).sp = s.sp := rfl
@[simp] theorem State.advance_pc (s : State) (n : Nat) : (s.advance n).pc = s.pc + BitVec.ofNat 16 n := rfl
@[simp] theorem State.advance_p (s : State) (n : Nat) : (s.advance n).p = s.p := rfl
@[simp] theorem State.advance_halted (s : State) (n : Nat) : (s.advance n).halted = s.halted := rfl
@[simp] theorem State.advance_ram (s : State) (n : Nat) : (s.advance n).ram = s.ram := rfl
@[simp] theorem State.advance_cart (s : State) (n : Nat) : (s.advance n).cart = s.cart := rfl
@[simp] theorem State.advance_report (s : State) (n : Nat) : (s.advance n).report = s.report := rfl

@[simp] theorem State.setNZ_a (s : State) (v : Byte) : (s.setNZ v).a = s.a := rfl
@[simp] theorem State.setNZ_x (s : State) (v : Byte) : (s.setNZ v).x = s.x := rfl
@[simp] theorem State.setNZ_y (s : State) (v : Byte) : (s.setNZ v).y = s.y := rfl
@[simp] theorem State.setNZ_sp (s : State) (v : Byte) : (s.setNZ v).sp = s.sp := rfl
@[simp] theorem State.setNZ_pc (s : State) (v : Byte) : (s.setNZ v).pc = s.pc := rfl
@[simp] theorem State.setNZ_p (s : State) (v : Byte) : (s.setNZ v).p = s.p.setNZ v := rfl
@[simp] theorem State.setNZ_halted (s : State) (v : Byte) : (s.setNZ v).halted = s.halted := rfl
@[simp] theorem State.setNZ_ram (s : State) (v : Byte) : (s.setNZ v).ram = s.ram := rfl
@[simp] theorem State.setNZ_cart (s : State) (v : Byte) : (s.setNZ v).cart = s.cart := rfl
@[simp] theorem State.setNZ_report (s : State) (v : Byte) : (s.setNZ v).report = s.report := rfl

/-- A read sees only RAM and the cartridge. -/
theorem State.read_congr {s t : State} (ram : s.ram = t.ram) (cart : s.cart = t.cart) (addr : Addr) :
    s.read addr = t.read addr := by
  simp [State.read, ram, cart]

@[simp] theorem State.read_advance (s : State) (n : Nat) (addr : Addr) : (s.advance n).read addr = s.read addr := rfl
@[simp] theorem State.read_popped (s : State) (addr : Addr) : s.popped.read addr = s.read addr := rfl
@[simp] theorem State.read_setNZ (s : State) (v : Byte) (addr : Addr) : (s.setNZ v).read addr = s.read addr := rfl
@[simp] theorem State.read_push (s : State) (v : Byte) (addr : Addr) :
    (s.push v).read addr = (s.write (stackAddr s.sp) v).read addr := rfl
@[simp] theorem State.top_advance (s : State) (n : Nat) : (s.advance n).top = s.top := rfl

/-- What a read sees after a write (20_memory.md R52, R65). -/
theorem State.read_write (s : State) (addr b : Addr) (v : Byte) :
    (s.write addr v).read b =
      if regionOf addr = .workRam ∧ regionOf b = .workRam ∧ ramIndex b = ramIndex addr then v else s.read b :=
  busRead_busWrite s.ram s.cart addr b v

/-- The byte that a pop returns. -/
theorem State.top_eq (s : State) : s.top = s.read (stackAddr (s.sp + 1#8)) := rfl

/-- The stack page is work RAM (20_memory.md R52). -/
theorem regionOf_stackAddr (sp : Byte) : regionOf (stackAddr sp) = .workRam := by
  revert sp; decide

/-- The RAM byte that SP designates (10_state.md R23). -/
theorem ramIndex_stackAddr (sp : Byte) : ramIndex (stackAddr sp) = 256 + sp.toNat := by
  revert sp; decide

/-- Different stack pointers designate different RAM bytes. -/
theorem ramIndex_stackAddr_inj (p q : Byte) : ramIndex (stackAddr p) = ramIndex (stackAddr q) ↔ p = q := by
  rw [ramIndex_stackAddr, ramIndex_stackAddr]
  constructor
  · intro h; exact BitVec.eq_of_toNat_eq (by omega)
  · rintro rfl; rfl

/-- What a read of the stack page sees after a write to it. -/
theorem State.read_stack_write (s : State) (p q : Byte) (v : Byte) :
    (s.write (stackAddr p) v).read (stackAddr q) = if q = p then v else s.read (stackAddr q) := by
  rw [State.read_write]
  simp only [regionOf_stackAddr, ramIndex_stackAddr_inj, true_and]

/-- A vector of the cartridge window is not changed by any write. -/
theorem State.vector_break_write (s : State) (addr : Addr) (v : Byte) :
    (s.write addr v).vector breakVector = s.vector breakVector := by
  show assemble ((s.write addr v).read 0xFFFF#16) ((s.write addr v).read 0xFFFE#16) =
    assemble (s.read 0xFFFF#16) (s.read 0xFFFE#16)
  rw [State.read_write, State.read_write]
  have h1 : regionOf 0xFFFF#16 ≠ .workRam := by decide
  have h2 : regionOf 0xFFFE#16 ≠ .workRam := by decide
  simp [h1, h2]

/-- A write keeps work RAM in canonical form. -/
theorem State.wf_write (s : State) (addr : Addr) (v : Byte) (h : s.ram.wf ramSize) :
    (s.write addr v).ram.wf ramSize :=
  wf_busWrite s.ram addr v h

end Sys2Proof.Machine
end

