-- ==== Sys2Proof/Laws/Exec.lean ====
section
/-! SUPPORT. What an instruction does, said once: every meaning is the handler of its mnemonic, run in the addressing mode
of its operand with its base cycle count (`exec_eq`), and a next state is what that handler leaves (`exec_next`). -/

namespace Sys2Proof.Machine

/-- A resolver sees no PC: it may be applied before or after the advance. -/
@[simp] theorem State.resolve_advance (s : State) (n : Nat) (p : Place) : (s.advance n).resolve p = s.resolve p := by
  cases p <;> rfl

/-- The end of a step in a state that is not halted. -/
theorem State.complete_running (s : State) (n : Nat) (h : s.halted = false) :
    s.complete n = .next { s with report := some { cycles := n, outcome := .ok } } := by
  simp [State.complete, h]

/-- A step that completes answers exactly one next state. -/
theorem State.complete_next (s t : State) (n : Nat) :
    s.complete n = .next t ↔
      t = { s with report := some { cycles := n, outcome := if s.halted then .halted else .ok } } := by
  constructor
  · intro h; injection h with h; exact h.symm
  · rintro rfl; rfl

/-- How the handler of a mnemonic is run: on nothing, on an operand byte, on a resolved address, on a shift target, as a
branch, or as NOP. -/
inductive Shape where
  /-- Implied mode. -/
  | implied (handle : State → Handled)
  /-- Immediate or a memory mode, with the byte of `fetch()`. -/
  | byte (handle : Byte → State → Handled)
  /-- A memory mode, with the resolved address. -/
  | address (handle : Addr → State → Handled)
  /-- Accumulator or a memory mode. -/
  | shift (handle : ShiftTarget → State → Handled)
  /-- Relative mode. -/
  | branch (condition : Status → Bool)
  /-- NOP and its aliases, in their modes. -/
  | nop

/-- Run a shape on an operand with a base cycle count. -/
def Shape.run : Shape → Operand → Nat → State → Option Result
  | .implied handle, .imp, base, s => some (runImplied base handle s)
  | .byte handle, .imm b, base, s => some (runImmediate base handle b s)
  | .byte handle, .mem p, base, s => some (runRead base handle p s)
  | .address handle, .mem p, base, s => some (runAddress base handle p s)
  | .shift handle, .acc, base, s => some (runImplied base (handle .acc) s)
  | .shift handle, .mem p, base, s => some (runAddress base (fun target => handle (.mem target)) p s)
  | .branch condition, .rel r, base, s => some (runBranch base condition r s)
  | .nop, .imp, base, s => some (runImplied base handleNop s)
  | .nop, .imm b, base, s => some (runImmediate base (fun _ => handleNop) b s)
  | .nop, .mem p, base, s => some (runRead base (fun _ => handleNop) p s)
  | _, _, _, _ => none

/-- The handler of a mnemonic (40_execution.md R106: "independent of addressing mode"). -/
def shapeOf : Mnemonic → Shape
  | .adc => .byte handleAdc
  | .alr => .byte handleAlr
  | .anc => .byte handleAnc
  | .and => .byte handleAnd
  | .ane => .byte handleAne
  | .arr => .byte handleArr
  | .asl => .shift handleAsl
  | .bcc => .branch takenBcc
  | .bcs => .branch takenBcs
  | .beq => .branch takenBeq
  | .bit => .byte handleBit
  | .bmi => .branch takenBmi
  | .bne => .branch takenBne
  | .bpl => .branch takenBpl
  | .brk => .implied handleBrk
  | .bvc => .branch takenBvc
  | .bvs => .branch takenBvs
  | .clc => .implied handleClc
  | .cld => .implied handleCld
  | .cli => .implied handleCli
  | .clv => .implied handleClv
  | .cmp => .byte handleCmp
  | .cpx => .byte handleCpx
  | .cpy => .byte handleCpy
  | .dcp => .address handleDcp
  | .dec => .address handleDec
  | .dex => .implied handleDex
  | .dey => .implied handleDey
  | .eor => .byte handleEor
  | .inc => .address handleInc
  | .inx => .implied handleInx
  | .iny => .implied handleIny
  | .isc => .address handleIsc
  | .jam => .implied handleJam
  | .jmp => .address handleJmp
  | .jsr => .address handleJsr
  | .las => .byte handleLas
  | .lax => .byte handleLax
  | .lda => .byte handleLda
  | .ldx => .byte handleLdx
  | .ldy => .byte handleLdy
  | .lsr => .shift handleLsr
  | .lxa => .byte handleLxa
  | .nop => .nop
  | .ora => .byte handleOra
  | .pha => .implied handlePha
  | .php => .implied handlePhp
  | .pla => .implied handlePla
  | .plp => .implied handlePlp
  | .rla => .address handleRla
  | .rol => .shift handleRol
  | .ror => .shift handleRor
  | .rra => .address handleRra
  | .rti => .implied handleRti
  | .rts => .implied handleRts
  | .sax => .address handleSax
  | .sbc => .byte handleSbc
  | .sbx => .byte handleSbx
  | .sec => .implied handleSec
  | .sed => .implied handleSed
  | .sei => .implied handleSei
  | .sha => .address handleSha
  | .shx => .address handleShx
  | .shy => .address handleShy
  | .slo => .address handleSlo
  | .sre => .address handleSre
  | .sta => .address handleSta
  | .stx => .address handleStx
  | .sty => .address handleSty
  | .tas => .address handleTas
  | .tax => .implied handleTax
  | .tay => .implied handleTay
  | .tsx => .implied handleTsx
  | .txa => .implied handleTxa
  | .txs => .implied handleTxs
  | .tya => .implied handleTya

/-- Every meaning is the handler of its mnemonic on its operand. -/
theorem exec_eq (i : Instr) (s : State) : (shapeOf i.mnemonic).run i.operand i.baseCycles s = some (exec i s) := by
  cases i <;> rfl

/-- The meaning of an instruction whose mnemonic works in Implied mode. -/
theorem exec_of_implied {i : Instr} (s : State) (handle : State → Handled) (h : shapeOf i.mnemonic = .implied handle) :
    i.operand = .imp ∧ exec i s = runImplied i.baseCycles handle s := by
  have e := exec_eq i s
  rw [h] at e
  cases ho : i.operand <;> rw [ho] at e <;> simp only [Shape.run, Option.some.injEq, reduceCtorEq] at e
  exact ⟨rfl, e.symm⟩

/-- The meaning of an instruction whose mnemonic takes an operand byte. -/
theorem exec_of_byte {i : Instr} (s : State) (handle : Byte → State → Handled)
    (h : shapeOf i.mnemonic = .byte handle) :
    (∃ b, i.operand = .imm b ∧ exec i s = runImmediate i.baseCycles handle b s) ∨
      (∃ p, i.operand = .mem p ∧ exec i s = runRead i.baseCycles handle p s) := by
  have e := exec_eq i s
  rw [h] at e
  cases ho : i.operand <;> rw [ho] at e <;> simp only [Shape.run, Option.some.injEq, reduceCtorEq] at e
  · exact .inl ⟨_, rfl, e.symm⟩
  · exact .inr ⟨_, rfl, e.symm⟩

/-- The meaning of an instruction whose mnemonic takes a resolved address. -/
theorem exec_of_address {i : Instr} (s : State) (handle : Addr → State → Handled)
    (h : shapeOf i.mnemonic = .address handle) :
    ∃ p, i.operand = .mem p ∧ exec i s = runAddress i.baseCycles handle p s := by
  have e := exec_eq i s
  rw [h] at e
  cases ho : i.operand <;> rw [ho] at e <;> simp only [Shape.run, Option.some.injEq, reduceCtorEq] at e
  exact ⟨_, rfl, e.symm⟩

/-- The meaning of a shift or rotate. -/
theorem exec_of_shift {i : Instr} (s : State) (handle : ShiftTarget → State → Handled)
    (h : shapeOf i.mnemonic = .shift handle) :
    (i.operand = .acc ∧ exec i s = runImplied i.baseCycles (handle .acc) s) ∨
      (∃ p, i.operand = .mem p ∧ exec i s = runAddress i.baseCycles (fun target => handle (.mem target)) p s) := by
  have e := exec_eq i s
  rw [h] at e
  cases ho : i.operand <;> rw [ho] at e <;> simp only [Shape.run, Option.some.injEq, reduceCtorEq] at e
  · exact .inl ⟨rfl, e.symm⟩
  · exact .inr ⟨_, rfl, e.symm⟩

/-- The meaning of a branch. -/
theorem exec_of_branch {i : Instr} (s : State) (condition : Status → Bool)
    (h : shapeOf i.mnemonic = .branch condition) :
    ∃ r, i.operand = .rel r ∧ exec i s = runBranch i.baseCycles condition r s := by
  have e := exec_eq i s
  rw [h] at e
  cases ho : i.operand <;> rw [ho] at e <;> simp only [Shape.run, Option.some.injEq, reduceCtorEq] at e
  exact ⟨_, rfl, e.symm⟩

/-- Everything the next state of a shape on an operand can be, but for the report. -/
inductive Shape.Leaves (s : State) : Shape → Operand → State → Prop where
  /-- Implied mode. -/
  | implied (handle : State → Handled) : Shape.Leaves s (.implied handle) .imp (handle (s.advance 1)).1
  /-- Immediate mode. -/
  | immediate (handle : Byte → State → Handled) (b : Byte) :
    Shape.Leaves s (.byte handle) (.imm b) (handle b (s.advance 2)).1
  /-- The byte at the resolved address. -/
  | read (handle : Byte → State → Handled) (p : Place) :
    Shape.Leaves s (.byte handle) (.mem p)
      (handle (s.read (s.resolve p).addr) (s.advance (Operand.mem p).length)).1
  /-- The resolved address. -/
  | address (handle : Addr → State → Handled) (p : Place) :
    Shape.Leaves s (.address handle) (.mem p) (handle (s.resolve p).addr (s.advance (Operand.mem p).length)).1
  /-- A shift of A. -/
  | accumulator (handle : ShiftTarget → State → Handled) :
    Shape.Leaves s (.shift handle) .acc (handle .acc (s.advance 1)).1
  /-- A shift of memory. -/
  | shifted (handle : ShiftTarget → State → Handled) (p : Place) :
    Shape.Leaves s (.shift handle) (.mem p)
      (handle (.mem (s.resolve p).addr) (s.advance (Operand.mem p).length)).1
  /-- A branch taken. -/
  | taken (condition : Status → Bool) (r : Byte) (h : condition s.p = true) :
    Shape.Leaves s (.branch condition) (.rel r) { s with pc := s.pc + 2#16 + sext16 r }
  /-- A branch not taken. -/
  | notTaken (condition : Status → Bool) (r : Byte) (h : condition s.p = false) :
    Shape.Leaves s (.branch condition) (.rel r) (s.advance 2)
  /-- NOP. -/
  | nop (o : Operand) : Shape.Leaves s .nop o (s.advance o.length)

/-- A next state of a meaning, inverted: what the handler of the mnemonic leaves, with the step's report. -/
theorem exec_next {i : Instr} {s t : State} (h : exec i s = .next t) :
    ∃ u cycles, Shape.Leaves s (shapeOf i.mnemonic) i.operand u ∧
      t = { u with report := some { cycles := cycles, outcome := if u.halted then .halted else .ok } } := by
  have e := exec_eq i s
  rw [h] at e
  revert e
  generalize shapeOf i.mnemonic = shape
  generalize i.operand = o
  generalize i.baseCycles = n
  intro e
  cases shape <;> cases o <;> simp only [Shape.run, Option.some.injEq, reduceCtorEq] at e
  all_goals try unfold runBranch at e; dsimp only at e; split at e
  all_goals
    try simp only [runImplied, runImmediate, runRead, runAddress, State.resolve_advance] at e
    rw [State.complete_next] at e
    refine ⟨_, _, ?_, e⟩
  case implied.imp => exact .implied _
  case byte.imm => exact .immediate _ _
  case byte.mem => exact .read _ _
  case address.mem => exact .address _ _
  case shift.acc => exact .accumulator _
  case shift.mem => exact .shifted _ _
  case isTrue hc => exact .taken _ _ hc
  case isFalse hc => exact .notTaken _ _ (Bool.eq_false_iff.mpr hc)
  all_goals exact .nop _

end Sys2Proof.Machine
end

