-- ==== Sys2Proof/Laws/Flags.lean ====
section
/-! SUPPORT. Laws of the status register. -/

namespace Sys2Proof.Machine

@[simp] theorem Status.setNZ_z (p : Status) (v : Byte) : (p.setNZ v).z = (v == 0#8) := rfl
@[simp] theorem Status.setNZ_n (p : Status) (v : Byte) : (p.setNZ v).n = v.getLsbD 7 := rfl
@[simp] theorem Status.setNZ_v (p : Status) (v : Byte) : (p.setNZ v).v = p.v := rfl
@[simp] theorem Status.setNZ_u (p : Status) (v : Byte) : (p.setNZ v).u = p.u := rfl
@[simp] theorem Status.setNZ_b (p : Status) (v : Byte) : (p.setNZ v).b = p.b := rfl
@[simp] theorem Status.setNZ_d (p : Status) (v : Byte) : (p.setNZ v).d = p.d := rfl
@[simp] theorem Status.setNZ_i (p : Status) (v : Byte) : (p.setNZ v).i = p.i := rfl
@[simp] theorem Status.setNZ_c (p : Status) (v : Byte) : (p.setNZ v).c = p.c := rfl

/-- The status byte has the flags at their positions (10_state.md R25). -/
theorem Status.ofByte_toByte (p : Status) : Status.ofByte p.toByte = p := by
  rcases p with ⟨n, v, u, b, d, i, z, c⟩
  cases n <;> cases v <;> cases u <;> cases b <;> cases d <;> cases i <;> cases z <;> cases c <;> rfl

/-- Pulling a pushed copy gives the same flags, with U = 1 and B = 0. -/
theorem Status.pulled_pushed (p : Status) : Status.pulled p.pushed = { p with u := true, b := false } := by
  rcases p with ⟨n, v, u, b, d, i, z, c⟩
  cases n <;> cases v <;> cases u <;> cases b <;> cases d <;> cases i <;> cases z <;> cases c <;> rfl

/-- What PLP and RTI load, flag by flag (43_control_stack_flags.md R233, R237). -/
theorem Status.pulled_eq (x : Byte) :
    Status.pulled x =
      { n := x.getLsbD 7, v := x.getLsbD 6, u := true, b := false, d := x.getLsbD 3, i := x.getLsbD 2,
        z := x.getLsbD 1, c := x.getLsbD 0 } := by
  simp [Status.pulled, Status.ofByte]

@[simp] theorem Status.pulled_u (x : Byte) : (Status.pulled x).u = true := by rw [Status.pulled_eq]
@[simp] theorem Status.pulled_b (x : Byte) : (Status.pulled x).b = false := by rw [Status.pulled_eq]

/-- The launch status (70_reset_and_hazards.md R350). -/
theorem Status.launch_eq : Status.launch =
    { n := false, v := false, u := true, b := false, d := false, i := true, z := false, c := false } := rfl

/-- No computation of the arithmetic and shift families touches D, I, U or B. -/
structure Status.Kept (p q : Status) : Prop where
  /-- D is kept. -/
  d : q.d = p.d
  /-- I is kept. -/
  i : q.i = p.i
  /-- U is kept. -/
  u : q.u = p.u
  /-- B is kept. -/
  b : q.b = p.b

theorem addCore_kept (a m : Byte) (p : Status) : p.Kept (addCore a m p).2 := ⟨rfl, rfl, rfl, rfl⟩
theorem compareCore_kept (r m : Byte) (p : Status) : p.Kept (compareCore r m p) := ⟨rfl, rfl, rfl, rfl⟩
theorem aslCore_kept (m : Byte) (p : Status) : p.Kept (aslCore m p).2 := ⟨rfl, rfl, rfl, rfl⟩
theorem lsrCore_kept (m : Byte) (p : Status) : p.Kept (lsrCore m p).2 := ⟨rfl, rfl, rfl, rfl⟩
theorem rolCore_kept (m : Byte) (p : Status) : p.Kept (rolCore m p).2 := ⟨rfl, rfl, rfl, rfl⟩
theorem rorCore_kept (m : Byte) (p : Status) : p.Kept (rorCore m p).2 := ⟨rfl, rfl, rfl, rfl⟩
theorem bitTest_kept (a m : Byte) (p : Status) : p.Kept (bitTest a m p) := ⟨rfl, rfl, rfl, rfl⟩
theorem ancCore_kept (a m : Byte) (p : Status) : p.Kept (ancCore a m p).2 := ⟨rfl, rfl, rfl, rfl⟩
theorem alrCore_kept (a m : Byte) (p : Status) : p.Kept (alrCore a m p).2 := ⟨rfl, rfl, rfl, rfl⟩
theorem arrCore_kept (a m : Byte) (p : Status) : p.Kept (arrCore a m p).2 := ⟨rfl, rfl, rfl, rfl⟩
theorem sbxCore_kept (a x m : Byte) (p : Status) : p.Kept (sbxCore a x m p).2 := ⟨rfl, rfl, rfl, rfl⟩

end Sys2Proof.Machine
end

