-- ==== Sys2Proof/Laws/PerInstr.lean ====
section
/-! SUPPORT. The families of laws that hold for each constructor of `Instr`. -/

namespace Sys2Proof.Laws

/-- An instruction is as many bytes long as its mode says (30_encoding.md R81). -/
def EncodedLength.Statement (i : Instr) : Prop := (encode i).length = i.operand.length

theorem EncodedLength.brk : EncodedLength.Statement (.brk) := rfl
theorem EncodedLength.oraIzx (zp : Byte) : EncodedLength.Statement (.oraIzx zp) := rfl
theorem EncodedLength.jam (code : JamOpcode) : EncodedLength.Statement (.jam code) := rfl
theorem EncodedLength.sloIzx (zp : Byte) : EncodedLength.Statement (.sloIzx zp) := rfl
theorem EncodedLength.nopZp (code : NopZpOpcode) (zp : Byte) : EncodedLength.Statement (.nopZp code zp) := rfl
theorem EncodedLength.oraZp (zp : Byte) : EncodedLength.Statement (.oraZp zp) := rfl
theorem EncodedLength.aslZp (zp : Byte) : EncodedLength.Statement (.aslZp zp) := rfl
theorem EncodedLength.sloZp (zp : Byte) : EncodedLength.Statement (.sloZp zp) := rfl
theorem EncodedLength.php : EncodedLength.Statement (.php) := rfl
theorem EncodedLength.oraImm (imm : Byte) : EncodedLength.Statement (.oraImm imm) := rfl
theorem EncodedLength.aslAcc : EncodedLength.Statement (.aslAcc) := rfl
theorem EncodedLength.ancImm (code : AncOpcode) (imm : Byte) : EncodedLength.Statement (.ancImm code imm) := rfl
theorem EncodedLength.nopAbs (addr : Addr) : EncodedLength.Statement (.nopAbs addr) := rfl
theorem EncodedLength.oraAbs (addr : Addr) : EncodedLength.Statement (.oraAbs addr) := rfl
theorem EncodedLength.aslAbs (addr : Addr) : EncodedLength.Statement (.aslAbs addr) := rfl
theorem EncodedLength.sloAbs (addr : Addr) : EncodedLength.Statement (.sloAbs addr) := rfl
theorem EncodedLength.bplRel (rel : Byte) : EncodedLength.Statement (.bplRel rel) := rfl
theorem EncodedLength.oraIzy (zp : Byte) : EncodedLength.Statement (.oraIzy zp) := rfl
theorem EncodedLength.sloIzy (zp : Byte) : EncodedLength.Statement (.sloIzy zp) := rfl
theorem EncodedLength.nopZpx (code : NopZpxOpcode) (zp : Byte) : EncodedLength.Statement (.nopZpx code zp) := rfl
theorem EncodedLength.oraZpx (zp : Byte) : EncodedLength.Statement (.oraZpx zp) := rfl
theorem EncodedLength.aslZpx (zp : Byte) : EncodedLength.Statement (.aslZpx zp) := rfl
theorem EncodedLength.sloZpx (zp : Byte) : EncodedLength.Statement (.sloZpx zp) := rfl
theorem EncodedLength.clc : EncodedLength.Statement (.clc) := rfl
theorem EncodedLength.oraAby (addr : Addr) : EncodedLength.Statement (.oraAby addr) := rfl
theorem EncodedLength.nopImp (code : NopImpOpcode) : EncodedLength.Statement (.nopImp code) := rfl
theorem EncodedLength.sloAby (addr : Addr) : EncodedLength.Statement (.sloAby addr) := rfl
theorem EncodedLength.nopAbx (code : NopAbxOpcode) (addr : Addr) : EncodedLength.Statement (.nopAbx code addr) := rfl
theorem EncodedLength.oraAbx (addr : Addr) : EncodedLength.Statement (.oraAbx addr) := rfl
theorem EncodedLength.aslAbx (addr : Addr) : EncodedLength.Statement (.aslAbx addr) := rfl
theorem EncodedLength.sloAbx (addr : Addr) : EncodedLength.Statement (.sloAbx addr) := rfl
theorem EncodedLength.jsrAbs (addr : Addr) : EncodedLength.Statement (.jsrAbs addr) := rfl
theorem EncodedLength.andIzx (zp : Byte) : EncodedLength.Statement (.andIzx zp) := rfl
theorem EncodedLength.rlaIzx (zp : Byte) : EncodedLength.Statement (.rlaIzx zp) := rfl
theorem EncodedLength.bitZp (zp : Byte) : EncodedLength.Statement (.bitZp zp) := rfl
theorem EncodedLength.andZp (zp : Byte) : EncodedLength.Statement (.andZp zp) := rfl
theorem EncodedLength.rolZp (zp : Byte) : EncodedLength.Statement (.rolZp zp) := rfl
theorem EncodedLength.rlaZp (zp : Byte) : EncodedLength.Statement (.rlaZp zp) := rfl
theorem EncodedLength.plp : EncodedLength.Statement (.plp) := rfl
theorem EncodedLength.andImm (imm : Byte) : EncodedLength.Statement (.andImm imm) := rfl
theorem EncodedLength.rolAcc : EncodedLength.Statement (.rolAcc) := rfl
theorem EncodedLength.bitAbs (addr : Addr) : EncodedLength.Statement (.bitAbs addr) := rfl
theorem EncodedLength.andAbs (addr : Addr) : EncodedLength.Statement (.andAbs addr) := rfl
theorem EncodedLength.rolAbs (addr : Addr) : EncodedLength.Statement (.rolAbs addr) := rfl
theorem EncodedLength.rlaAbs (addr : Addr) : EncodedLength.Statement (.rlaAbs addr) := rfl
theorem EncodedLength.bmiRel (rel : Byte) : EncodedLength.Statement (.bmiRel rel) := rfl
theorem EncodedLength.andIzy (zp : Byte) : EncodedLength.Statement (.andIzy zp) := rfl
theorem EncodedLength.rlaIzy (zp : Byte) : EncodedLength.Statement (.rlaIzy zp) := rfl
theorem EncodedLength.andZpx (zp : Byte) : EncodedLength.Statement (.andZpx zp) := rfl
theorem EncodedLength.rolZpx (zp : Byte) : EncodedLength.Statement (.rolZpx zp) := rfl
theorem EncodedLength.rlaZpx (zp : Byte) : EncodedLength.Statement (.rlaZpx zp) := rfl
theorem EncodedLength.sec : EncodedLength.Statement (.sec) := rfl
theorem EncodedLength.andAby (addr : Addr) : EncodedLength.Statement (.andAby addr) := rfl
theorem EncodedLength.rlaAby (addr : Addr) : EncodedLength.Statement (.rlaAby addr) := rfl
theorem EncodedLength.andAbx (addr : Addr) : EncodedLength.Statement (.andAbx addr) := rfl
theorem EncodedLength.rolAbx (addr : Addr) : EncodedLength.Statement (.rolAbx addr) := rfl
theorem EncodedLength.rlaAbx (addr : Addr) : EncodedLength.Statement (.rlaAbx addr) := rfl
theorem EncodedLength.rti : EncodedLength.Statement (.rti) := rfl
theorem EncodedLength.eorIzx (zp : Byte) : EncodedLength.Statement (.eorIzx zp) := rfl
theorem EncodedLength.sreIzx (zp : Byte) : EncodedLength.Statement (.sreIzx zp) := rfl
theorem EncodedLength.eorZp (zp : Byte) : EncodedLength.Statement (.eorZp zp) := rfl
theorem EncodedLength.lsrZp (zp : Byte) : EncodedLength.Statement (.lsrZp zp) := rfl
theorem EncodedLength.sreZp (zp : Byte) : EncodedLength.Statement (.sreZp zp) := rfl
theorem EncodedLength.pha : EncodedLength.Statement (.pha) := rfl
theorem EncodedLength.eorImm (imm : Byte) : EncodedLength.Statement (.eorImm imm) := rfl
theorem EncodedLength.lsrAcc : EncodedLength.Statement (.lsrAcc) := rfl
theorem EncodedLength.alrImm (imm : Byte) : EncodedLength.Statement (.alrImm imm) := rfl
theorem EncodedLength.jmpAbs (addr : Addr) : EncodedLength.Statement (.jmpAbs addr) := rfl
theorem EncodedLength.eorAbs (addr : Addr) : EncodedLength.Statement (.eorAbs addr) := rfl
theorem EncodedLength.lsrAbs (addr : Addr) : EncodedLength.Statement (.lsrAbs addr) := rfl
theorem EncodedLength.sreAbs (addr : Addr) : EncodedLength.Statement (.sreAbs addr) := rfl
theorem EncodedLength.bvcRel (rel : Byte) : EncodedLength.Statement (.bvcRel rel) := rfl
theorem EncodedLength.eorIzy (zp : Byte) : EncodedLength.Statement (.eorIzy zp) := rfl
theorem EncodedLength.sreIzy (zp : Byte) : EncodedLength.Statement (.sreIzy zp) := rfl
theorem EncodedLength.eorZpx (zp : Byte) : EncodedLength.Statement (.eorZpx zp) := rfl
theorem EncodedLength.lsrZpx (zp : Byte) : EncodedLength.Statement (.lsrZpx zp) := rfl
theorem EncodedLength.sreZpx (zp : Byte) : EncodedLength.Statement (.sreZpx zp) := rfl
theorem EncodedLength.cli : EncodedLength.Statement (.cli) := rfl
theorem EncodedLength.eorAby (addr : Addr) : EncodedLength.Statement (.eorAby addr) := rfl
theorem EncodedLength.sreAby (addr : Addr) : EncodedLength.Statement (.sreAby addr) := rfl
theorem EncodedLength.eorAbx (addr : Addr) : EncodedLength.Statement (.eorAbx addr) := rfl
theorem EncodedLength.lsrAbx (addr : Addr) : EncodedLength.Statement (.lsrAbx addr) := rfl
theorem EncodedLength.sreAbx (addr : Addr) : EncodedLength.Statement (.sreAbx addr) := rfl
theorem EncodedLength.rts : EncodedLength.Statement (.rts) := rfl
theorem EncodedLength.adcIzx (zp : Byte) : EncodedLength.Statement (.adcIzx zp) := rfl
theorem EncodedLength.rraIzx (zp : Byte) : EncodedLength.Statement (.rraIzx zp) := rfl
theorem EncodedLength.adcZp (zp : Byte) : EncodedLength.Statement (.adcZp zp) := rfl
theorem EncodedLength.rorZp (zp : Byte) : EncodedLength.Statement (.rorZp zp) := rfl
theorem EncodedLength.rraZp (zp : Byte) : EncodedLength.Statement (.rraZp zp) := rfl
theorem EncodedLength.pla : EncodedLength.Statement (.pla) := rfl
theorem EncodedLength.adcImm (imm : Byte) : EncodedLength.Statement (.adcImm imm) := rfl
theorem EncodedLength.rorAcc : EncodedLength.Statement (.rorAcc) := rfl
theorem EncodedLength.arrImm (imm : Byte) : EncodedLength.Statement (.arrImm imm) := rfl
theorem EncodedLength.jmpInd (ptr : Addr) : EncodedLength.Statement (.jmpInd ptr) := rfl
theorem EncodedLength.adcAbs (addr : Addr) : EncodedLength.Statement (.adcAbs addr) := rfl
theorem EncodedLength.rorAbs (addr : Addr) : EncodedLength.Statement (.rorAbs addr) := rfl
theorem EncodedLength.rraAbs (addr : Addr) : EncodedLength.Statement (.rraAbs addr) := rfl
theorem EncodedLength.bvsRel (rel : Byte) : EncodedLength.Statement (.bvsRel rel) := rfl
theorem EncodedLength.adcIzy (zp : Byte) : EncodedLength.Statement (.adcIzy zp) := rfl
theorem EncodedLength.rraIzy (zp : Byte) : EncodedLength.Statement (.rraIzy zp) := rfl
theorem EncodedLength.adcZpx (zp : Byte) : EncodedLength.Statement (.adcZpx zp) := rfl
theorem EncodedLength.rorZpx (zp : Byte) : EncodedLength.Statement (.rorZpx zp) := rfl
theorem EncodedLength.rraZpx (zp : Byte) : EncodedLength.Statement (.rraZpx zp) := rfl
theorem EncodedLength.sei : EncodedLength.Statement (.sei) := rfl
theorem EncodedLength.adcAby (addr : Addr) : EncodedLength.Statement (.adcAby addr) := rfl
theorem EncodedLength.rraAby (addr : Addr) : EncodedLength.Statement (.rraAby addr) := rfl
theorem EncodedLength.adcAbx (addr : Addr) : EncodedLength.Statement (.adcAbx addr) := rfl
theorem EncodedLength.rorAbx (addr : Addr) : EncodedLength.Statement (.rorAbx addr) := rfl
theorem EncodedLength.rraAbx (addr : Addr) : EncodedLength.Statement (.rraAbx addr) := rfl
theorem EncodedLength.nopImm (code : NopImmOpcode) (imm : Byte) : EncodedLength.Statement (.nopImm code imm) := rfl
theorem EncodedLength.staIzx (zp : Byte) : EncodedLength.Statement (.staIzx zp) := rfl
theorem EncodedLength.saxIzx (zp : Byte) : EncodedLength.Statement (.saxIzx zp) := rfl
theorem EncodedLength.styZp (zp : Byte) : EncodedLength.Statement (.styZp zp) := rfl
theorem EncodedLength.staZp (zp : Byte) : EncodedLength.Statement (.staZp zp) := rfl
theorem EncodedLength.stxZp (zp : Byte) : EncodedLength.Statement (.stxZp zp) := rfl
theorem EncodedLength.saxZp (zp : Byte) : EncodedLength.Statement (.saxZp zp) := rfl
theorem EncodedLength.dey : EncodedLength.Statement (.dey) := rfl
theorem EncodedLength.txa : EncodedLength.Statement (.txa) := rfl
theorem EncodedLength.aneImm (imm : Byte) : EncodedLength.Statement (.aneImm imm) := rfl
theorem EncodedLength.styAbs (addr : Addr) : EncodedLength.Statement (.styAbs addr) := rfl
theorem EncodedLength.staAbs (addr : Addr) : EncodedLength.Statement (.staAbs addr) := rfl
theorem EncodedLength.stxAbs (addr : Addr) : EncodedLength.Statement (.stxAbs addr) := rfl
theorem EncodedLength.saxAbs (addr : Addr) : EncodedLength.Statement (.saxAbs addr) := rfl
theorem EncodedLength.bccRel (rel : Byte) : EncodedLength.Statement (.bccRel rel) := rfl
theorem EncodedLength.staIzy (zp : Byte) : EncodedLength.Statement (.staIzy zp) := rfl
theorem EncodedLength.shaIzy (zp : Byte) : EncodedLength.Statement (.shaIzy zp) := rfl
theorem EncodedLength.styZpx (zp : Byte) : EncodedLength.Statement (.styZpx zp) := rfl
theorem EncodedLength.staZpx (zp : Byte) : EncodedLength.Statement (.staZpx zp) := rfl
theorem EncodedLength.stxZpy (zp : Byte) : EncodedLength.Statement (.stxZpy zp) := rfl
theorem EncodedLength.saxZpy (zp : Byte) : EncodedLength.Statement (.saxZpy zp) := rfl
theorem EncodedLength.tya : EncodedLength.Statement (.tya) := rfl
theorem EncodedLength.staAby (addr : Addr) : EncodedLength.Statement (.staAby addr) := rfl
theorem EncodedLength.txs : EncodedLength.Statement (.txs) := rfl
theorem EncodedLength.tasAby (addr : Addr) : EncodedLength.Statement (.tasAby addr) := rfl
theorem EncodedLength.shyAbx (addr : Addr) : EncodedLength.Statement (.shyAbx addr) := rfl
theorem EncodedLength.staAbx (addr : Addr) : EncodedLength.Statement (.staAbx addr) := rfl
theorem EncodedLength.shxAby (addr : Addr) : EncodedLength.Statement (.shxAby addr) := rfl
theorem EncodedLength.shaAby (addr : Addr) : EncodedLength.Statement (.shaAby addr) := rfl
theorem EncodedLength.ldyImm (imm : Byte) : EncodedLength.Statement (.ldyImm imm) := rfl
theorem EncodedLength.ldaIzx (zp : Byte) : EncodedLength.Statement (.ldaIzx zp) := rfl
theorem EncodedLength.ldxImm (imm : Byte) : EncodedLength.Statement (.ldxImm imm) := rfl
theorem EncodedLength.laxIzx (zp : Byte) : EncodedLength.Statement (.laxIzx zp) := rfl
theorem EncodedLength.ldyZp (zp : Byte) : EncodedLength.Statement (.ldyZp zp) := rfl
theorem EncodedLength.ldaZp (zp : Byte) : EncodedLength.Statement (.ldaZp zp) := rfl
theorem EncodedLength.ldxZp (zp : Byte) : EncodedLength.Statement (.ldxZp zp) := rfl
theorem EncodedLength.laxZp (zp : Byte) : EncodedLength.Statement (.laxZp zp) := rfl
theorem EncodedLength.tay : EncodedLength.Statement (.tay) := rfl
theorem EncodedLength.ldaImm (imm : Byte) : EncodedLength.Statement (.ldaImm imm) := rfl
theorem EncodedLength.tax : EncodedLength.Statement (.tax) := rfl
theorem EncodedLength.lxaImm (imm : Byte) : EncodedLength.Statement (.lxaImm imm) := rfl
theorem EncodedLength.ldyAbs (addr : Addr) : EncodedLength.Statement (.ldyAbs addr) := rfl
theorem EncodedLength.ldaAbs (addr : Addr) : EncodedLength.Statement (.ldaAbs addr) := rfl
theorem EncodedLength.ldxAbs (addr : Addr) : EncodedLength.Statement (.ldxAbs addr) := rfl
theorem EncodedLength.laxAbs (addr : Addr) : EncodedLength.Statement (.laxAbs addr) := rfl
theorem EncodedLength.bcsRel (rel : Byte) : EncodedLength.Statement (.bcsRel rel) := rfl
theorem EncodedLength.ldaIzy (zp : Byte) : EncodedLength.Statement (.ldaIzy zp) := rfl
theorem EncodedLength.laxIzy (zp : Byte) : EncodedLength.Statement (.laxIzy zp) := rfl
theorem EncodedLength.ldyZpx (zp : Byte) : EncodedLength.Statement (.ldyZpx zp) := rfl
theorem EncodedLength.ldaZpx (zp : Byte) : EncodedLength.Statement (.ldaZpx zp) := rfl
theorem EncodedLength.ldxZpy (zp : Byte) : EncodedLength.Statement (.ldxZpy zp) := rfl
theorem EncodedLength.laxZpy (zp : Byte) : EncodedLength.Statement (.laxZpy zp) := rfl
theorem EncodedLength.clv : EncodedLength.Statement (.clv) := rfl
theorem EncodedLength.ldaAby (addr : Addr) : EncodedLength.Statement (.ldaAby addr) := rfl
theorem EncodedLength.tsx : EncodedLength.Statement (.tsx) := rfl
theorem EncodedLength.lasAby (addr : Addr) : EncodedLength.Statement (.lasAby addr) := rfl
theorem EncodedLength.ldyAbx (addr : Addr) : EncodedLength.Statement (.ldyAbx addr) := rfl
theorem EncodedLength.ldaAbx (addr : Addr) : EncodedLength.Statement (.ldaAbx addr) := rfl
theorem EncodedLength.ldxAby (addr : Addr) : EncodedLength.Statement (.ldxAby addr) := rfl
theorem EncodedLength.laxAby (addr : Addr) : EncodedLength.Statement (.laxAby addr) := rfl
theorem EncodedLength.cpyImm (imm : Byte) : EncodedLength.Statement (.cpyImm imm) := rfl
theorem EncodedLength.cmpIzx (zp : Byte) : EncodedLength.Statement (.cmpIzx zp) := rfl
theorem EncodedLength.dcpIzx (zp : Byte) : EncodedLength.Statement (.dcpIzx zp) := rfl
theorem EncodedLength.cpyZp (zp : Byte) : EncodedLength.Statement (.cpyZp zp) := rfl
theorem EncodedLength.cmpZp (zp : Byte) : EncodedLength.Statement (.cmpZp zp) := rfl
theorem EncodedLength.decZp (zp : Byte) : EncodedLength.Statement (.decZp zp) := rfl
theorem EncodedLength.dcpZp (zp : Byte) : EncodedLength.Statement (.dcpZp zp) := rfl
theorem EncodedLength.iny : EncodedLength.Statement (.iny) := rfl
theorem EncodedLength.cmpImm (imm : Byte) : EncodedLength.Statement (.cmpImm imm) := rfl
theorem EncodedLength.dex : EncodedLength.Statement (.dex) := rfl
theorem EncodedLength.sbxImm (imm : Byte) : EncodedLength.Statement (.sbxImm imm) := rfl
theorem EncodedLength.cpyAbs (addr : Addr) : EncodedLength.Statement (.cpyAbs addr) := rfl
theorem EncodedLength.cmpAbs (addr : Addr) : EncodedLength.Statement (.cmpAbs addr) := rfl
theorem EncodedLength.decAbs (addr : Addr) : EncodedLength.Statement (.decAbs addr) := rfl
theorem EncodedLength.dcpAbs (addr : Addr) : EncodedLength.Statement (.dcpAbs addr) := rfl
theorem EncodedLength.bneRel (rel : Byte) : EncodedLength.Statement (.bneRel rel) := rfl
theorem EncodedLength.cmpIzy (zp : Byte) : EncodedLength.Statement (.cmpIzy zp) := rfl
theorem EncodedLength.dcpIzy (zp : Byte) : EncodedLength.Statement (.dcpIzy zp) := rfl
theorem EncodedLength.cmpZpx (zp : Byte) : EncodedLength.Statement (.cmpZpx zp) := rfl
theorem EncodedLength.decZpx (zp : Byte) : EncodedLength.Statement (.decZpx zp) := rfl
theorem EncodedLength.dcpZpx (zp : Byte) : EncodedLength.Statement (.dcpZpx zp) := rfl
theorem EncodedLength.cld : EncodedLength.Statement (.cld) := rfl
theorem EncodedLength.cmpAby (addr : Addr) : EncodedLength.Statement (.cmpAby addr) := rfl
theorem EncodedLength.dcpAby (addr : Addr) : EncodedLength.Statement (.dcpAby addr) := rfl
theorem EncodedLength.cmpAbx (addr : Addr) : EncodedLength.Statement (.cmpAbx addr) := rfl
theorem EncodedLength.decAbx (addr : Addr) : EncodedLength.Statement (.decAbx addr) := rfl
theorem EncodedLength.dcpAbx (addr : Addr) : EncodedLength.Statement (.dcpAbx addr) := rfl
theorem EncodedLength.cpxImm (imm : Byte) : EncodedLength.Statement (.cpxImm imm) := rfl
theorem EncodedLength.sbcIzx (zp : Byte) : EncodedLength.Statement (.sbcIzx zp) := rfl
theorem EncodedLength.iscIzx (zp : Byte) : EncodedLength.Statement (.iscIzx zp) := rfl
theorem EncodedLength.cpxZp (zp : Byte) : EncodedLength.Statement (.cpxZp zp) := rfl
theorem EncodedLength.sbcZp (zp : Byte) : EncodedLength.Statement (.sbcZp zp) := rfl
theorem EncodedLength.incZp (zp : Byte) : EncodedLength.Statement (.incZp zp) := rfl
theorem EncodedLength.iscZp (zp : Byte) : EncodedLength.Statement (.iscZp zp) := rfl
theorem EncodedLength.inx : EncodedLength.Statement (.inx) := rfl
theorem EncodedLength.sbcImm (imm : Byte) : EncodedLength.Statement (.sbcImm imm) := rfl
theorem EncodedLength.nop : EncodedLength.Statement (.nop) := rfl
theorem EncodedLength.usbcImm (imm : Byte) : EncodedLength.Statement (.usbcImm imm) := rfl
theorem EncodedLength.cpxAbs (addr : Addr) : EncodedLength.Statement (.cpxAbs addr) := rfl
theorem EncodedLength.sbcAbs (addr : Addr) : EncodedLength.Statement (.sbcAbs addr) := rfl
theorem EncodedLength.incAbs (addr : Addr) : EncodedLength.Statement (.incAbs addr) := rfl
theorem EncodedLength.iscAbs (addr : Addr) : EncodedLength.Statement (.iscAbs addr) := rfl
theorem EncodedLength.beqRel (rel : Byte) : EncodedLength.Statement (.beqRel rel) := rfl
theorem EncodedLength.sbcIzy (zp : Byte) : EncodedLength.Statement (.sbcIzy zp) := rfl
theorem EncodedLength.iscIzy (zp : Byte) : EncodedLength.Statement (.iscIzy zp) := rfl
theorem EncodedLength.sbcZpx (zp : Byte) : EncodedLength.Statement (.sbcZpx zp) := rfl
theorem EncodedLength.incZpx (zp : Byte) : EncodedLength.Statement (.incZpx zp) := rfl
theorem EncodedLength.iscZpx (zp : Byte) : EncodedLength.Statement (.iscZpx zp) := rfl
theorem EncodedLength.sed : EncodedLength.Statement (.sed) := rfl
theorem EncodedLength.sbcAby (addr : Addr) : EncodedLength.Statement (.sbcAby addr) := rfl
theorem EncodedLength.iscAby (addr : Addr) : EncodedLength.Statement (.iscAby addr) := rfl
theorem EncodedLength.sbcAbx (addr : Addr) : EncodedLength.Statement (.sbcAbx addr) := rfl
theorem EncodedLength.incAbx (addr : Addr) : EncodedLength.Statement (.incAbx addr) := rfl
theorem EncodedLength.iscAbx (addr : Addr) : EncodedLength.Statement (.iscAbx addr) := rfl

end Sys2Proof.Laws
end

