-- ==== Sys2Proof/Tests/Slice0.lean ====
section
/-! SUPPORT. The model's own tests. Expected values are the spec's: 95_test_vectors.md (L1 the source's worked examples,
L2 the derived vectors), the corner cases of the rules named, and 30_encoding.md R84 for the words. The second half shows,
for each statement with hypotheses, a state and operands that meet them together. -/

namespace Sys2Proof.Tests

open Sys2Proof Sys2Proof.Machine Sys2Proof.Claims

/-- The start state of 95_test_vectors.md: PC = 0x8000 in a 16 KiB program image, A = X = Y = 0, SP = 0xFD, P = 0x24. -/
def start : State := { State.reset with cart := some { size := .kib16, prg := [] }, pc := 0x8000#16 }

/-- The start state with another status byte. -/
def withP (p : Byte) : State := { start with p := Status.ofByte p }

/-- The start state with one byte of work RAM. -/
def withByte (k : Nat) (v : Byte) : State := { start with ram := [(k, v)] }

/-- The state after the instruction that the bytes decode to, when the bytes are used up or begin it. -/
def after (code : List Byte) (s : State) : State :=
  match decode code with
  | .ok (i, _) =>
    match exec i s with
    | .next t => t
    | .fault _ => s
    | .refused _ => s
  | .error _ => s

/-- The cycles that the last step returned. -/
def cycles (s : State) : Option Nat := s.report.map StepReport.cycles

/-- The next state of an answer, when it is one. -/
def nextOf : Result → Option State
  | .next t => some t
  | .fault _ => none
  | .refused _ => none

/-- The next state of a step, when there is one. -/
def stepped (s : State) : Option State := nextOf (step s)

/-- An answer whose next state is evaluated by `decide`. -/
theorem eq_next {r : Result} {t : State} (h : nextOf r = some t) : r = .next t := by
  cases r with
  | next s => cases h; rfl
  | fault f => cases h
  | refused f => cases h


/-! Decoding: words written out from the opcode map (30_encoding.md R84), a family at a time. -/

theorem test_decode_load : decode [0xB1#8, 0x10#8] = .ok (.ldaIzy 0x10#8, []) := rfl
theorem test_decode_store : decode [0x94#8, 0xF0#8] = .ok (.styZpx 0xF0#8, []) := rfl
theorem test_decode_transfer : decode [0xBA#8] = .ok (.tsx, []) := rfl
theorem test_decode_arithmetic : decode [0xF9#8, 0x34#8, 0x12#8] = .ok (.sbcAby 0x1234#16, []) := rfl
theorem test_decode_compare : decode [0xEC#8, 0x34#8, 0x12#8] = .ok (.cpxAbs 0x1234#16, []) := rfl
theorem test_decode_shift : decode [0x7E#8, 0x34#8, 0x12#8] = .ok (.rorAbx 0x1234#16, []) := rfl
theorem test_decode_branch : decode [0x70#8, 0xFE#8] = .ok (.bvsRel 0xFE#8, []) := rfl
theorem test_decode_jump : decode [0x4C#8, 0x34#8, 0x12#8] = .ok (.jmpAbs 0x1234#16, []) := rfl
theorem test_decode_trap : decode [0x40#8] = .ok (.rti, []) := rfl
theorem test_decode_stack : decode [0x28#8] = .ok (.plp, []) := rfl
theorem test_decode_flag : decode [0xB8#8] = .ok (.clv, []) := rfl
theorem test_decode_undocumented : decode [0xB7#8, 0xF0#8] = .ok (.laxZpy 0xF0#8, []) := rfl
theorem test_decode_usbc : decode [0xEB#8, 0x01#8] = .ok (.usbcImm 0x01#8, []) := rfl
theorem test_decode_nop_alias : decode [0xD4#8, 0x01#8] = .ok (.nopZpx .opD4 0x01#8, []) := rfl
theorem test_decode_jam : decode [0xF2#8] = .ok (.jam .opF2, []) := rfl
theorem test_decode_empty : decode [] = .error .noOpcode := rfl
theorem test_decode_truncated : decode [0x6C#8, 0xFF#8] = .error (.missingOperand 0x6C#8) := rfl
theorem test_table_word : decodeTableWord 24 0x1234BD = some (.ldaAbx 0x1234#16) := rfl
theorem test_table_word_high_bits : decodeTableWord 8 0x12BD = some (.ldaAbx 0x0000#16) := rfl

/-! WellFormed: a program image of any other size than 16 KiB or 32 KiB is refused (20_memory.md R56). -/

theorem test_image_empty_refused : imageWellFormed [] = false := by decide
theorem test_image_one_byte_refused : imageWellFormed [0xEA#8] = false := by decide
theorem test_attach_refused : Cartridge.ofBytes [0xEA#8] = .error (.programSize 1) := rfl
theorem test_image_16384_accepted : imageWellFormed (List.replicate 16384 0x00#8) = true := by
  simp only [imageWellFormed, programSizeOf, List.length_replicate]; rfl

/-! Memory: the canonical form. -/

theorem test_reset_memory_wf : State.reset.ram.wf ramSize := by decide
theorem test_write_order : ((Memory.write [] 5 0x01#8).write 3 0x02#8) = [(3, 0x02#8), (5, 0x01#8)] := by decide
theorem test_write_unlisted_removes : Memory.write [(3, 0x02#8), (5, 0x01#8)] 3 0x00#8 = [(5, 0x01#8)] := by decide

/-! Bus (95_test_vectors.md L1.2, L1.3, L2.1). -/

theorem test_mirror : let t := start.write 0x0000#16 0xA5#8; (t.read 0x0800#16, t.read 0x1000#16, t.read 0x1800#16) = (0xA5#8, 0xA5#8, 0xA5#8) := by
  decide
theorem test_mirror_top : (start.write 0x1FFF#16 0x42#8).read 0x07FF#16 = 0x42#8 := by decide
theorem test_fold : let s := { start with cart := some { size := .kib16, prg := [(1, 0x5A#8)] } }; (s.read 0x8001#16, s.read 0xC001#16) = (0x5A#8, 0x5A#8) := by
  decide
theorem test_no_fold : let s := { start with cart := some { size := .kib32, prg := [(1, 0x5A#8)] } }; (s.read 0x8001#16, s.read 0xC001#16) = (0x5A#8, 0x00#8) := by
  decide
theorem test_video_reads_zero :
    let t := after [0xAD#8, 0x02#8, 0x20#8] start
    (t.a, t.p.toByte, cycles t) = (0x00#8, 0x26#8, some 4) := by decide
theorem test_default_reads_zero :
    let t := after [0xAD#8, 0x16#8, 0x40#8] start
    (t.a, t.p.toByte, cycles t) = (0x00#8, 0x26#8, some 4) := by decide
theorem test_store_to_cartridge_ignored : after [0x8D#8, 0x00#8, 0x80#8] { start with a := 0x11#8 } =
    { start with a := 0x11#8, pc := 0x8003#16, report := some ⟨4, .ok⟩ } := by decide

/-! Addressing modes (L2.2). -/

theorem test_abx_crossed :
    let t := after [0xBD#8, 0xFF#8, 0x12#8] { withByte 0x300 0x7F#8 with x := 0x01#8 }
    (t.a, t.pc, cycles t) = (0x7F#8, 0x8003#16, some 5) := by decide
theorem test_zpy_wraps :
    let t := after [0xB6#8, 0xF0#8] { withByte 0x10 0xFF#8 with y := 0x20#8 }
    (t.x, t.p.toByte, cycles t) = (0xFF#8, 0xA4#8, some 4) := by decide
theorem test_izx_pointer_wraps :
    let t := after [0xA1#8, 0xFF#8] { start with ram := [(0x00, 0x02#8), (0xFF, 0x34#8), (0x234, 0x99#8)] }
    (t.a, cycles t) = (0x99#8, some 6) := by decide
theorem test_izy_crossed :
    let t := after [0xB1#8, 0x10#8] { start with y := 0xFF#8, ram := [(0x10, 0xF0#8), (0x11, 0x02#8), (0x3EF, 0x05#8)] }
    (t.a, cycles t) = (0x05#8, some 6) := by decide
theorem test_store_never_gains_a_cycle :
    let t := after [0x9D#8, 0xFF#8, 0x12#8] { start with x := 0x01#8, a := 0xAB#8 }
    (t.read 0x1300#16, cycles t) = (0xAB#8, some 5) := by decide
theorem test_pc_wraps :
    let t := after [0xEA#8] { start with pc := 0xFFFF#16 }
    (t.pc, cycles t) = (0x0000#16, some 2) := by decide

/-! Loads, stores, transfers (L1.4, L2.3). -/

theorem test_lda_zero :
    let t := after [0xA9#8, 0x00#8] start
    (t.a, t.p.toByte, t.pc) = (0x00#8, 0x26#8, 0x8002#16) := by decide
theorem test_lda_negative :
    let t := after [0xA9#8, 0x80#8] start
    (t.a, t.p.toByte, cycles t) = (0x80#8, 0xA4#8, some 2) := by decide
theorem test_ldx : let t := after [0xA2#8, 0x00#8] start; (t.x, t.p.toByte) = (0x00#8, 0x26#8) := by decide
theorem test_ldy : let t := after [0xA0#8, 0xFF#8] start; (t.y, t.p.toByte) = (0xFF#8, 0xA4#8) := by decide
theorem test_sta :
    let t := after [0x8D#8, 0x00#8, 0x00#8] { start with a := 0xA5#8 }
    (t.read 0x0800#16, t.p.toByte) = (0xA5#8, 0x24#8) := by decide
theorem test_stx :
    let t := after [0x8E#8, 0xFF#8, 0x1F#8] { start with x := 0x42#8 }
    (t.read 0x07FF#16, t.p.toByte) = (0x42#8, 0x24#8) := by decide
theorem test_sty :
    let t := after [0x84#8, 0x10#8] { start with y := 0x80#8 }
    (t.read 0x0010#16, t.p.toByte, cycles t) = (0x80#8, 0x24#8, some 3) := by decide
theorem test_tax :
    let t := after [0xAA#8] { start with x := 0x55#8 }
    (t.x, t.p.toByte) = (0x00#8, 0x26#8) := by decide
theorem test_tay :
    let t := after [0xA8#8] { start with y := 0x55#8 }
    (t.y, t.p.toByte) = (0x00#8, 0x26#8) := by decide
theorem test_txa :
    let t := after [0x8A#8] { start with x := 0x7F#8 }
    (t.a, t.p.toByte) = (0x7F#8, 0x24#8) := by decide
theorem test_tya :
    let t := after [0x98#8] { start with y := 0x90#8 }
    (t.a, t.p.toByte) = (0x90#8, 0xA4#8) := by decide
theorem test_tsx : let t := after [0xBA#8] start; (t.x, t.p.toByte) = (0xFD#8, 0xA4#8) := by decide
theorem test_txs : let t := after [0x9A#8] start; (t.sp, t.p.toByte) = (0x00#8, 0x24#8) := by decide

/-! Arithmetic, logic, compare, shifts (L1.5, L1.6, L2.4). -/

theorem test_adc_overflow :
    let t := after [0x69#8, 0x50#8] { start with a := 0x50#8 }
    (t.a, t.p.toByte, cycles t) = (0xA0#8, 0xE4#8, some 2) := by decide
theorem test_adc_decimal_is_binary :
    let t := after [0x69#8, 0x01#8] { withP 0x2C#8 with a := 0x09#8 }
    (t.a, t.p.toByte) = (0x0A#8, 0x2C#8) := by decide
theorem test_sbc_borrow :
    let t := after [0xE9#8, 0xF0#8] { withP 0x25#8 with a := 0x50#8 }
    (t.a, t.p.toByte) = (0x60#8, 0x24#8) := by decide
theorem test_sbc_overflow :
    let t := after [0xE9#8, 0x01#8] { withP 0x25#8 with a := 0x80#8 }
    (t.a, t.p.toByte) = (0x7F#8, 0x65#8) := by decide
theorem test_and :
    let t := after [0x29#8, 0x0F#8] { start with a := 0xF0#8 }
    (t.a, t.p.toByte) = (0x00#8, 0x26#8) := by decide
theorem test_ora :
    let t := after [0x09#8, 0x80#8] { start with a := 0x01#8 }
    (t.a, t.p.toByte) = (0x81#8, 0xA4#8) := by decide
theorem test_eor :
    let t := after [0x49#8, 0xFF#8] { start with a := 0xFF#8 }
    (t.a, t.p.toByte) = (0x00#8, 0x26#8) := by decide
theorem test_cmp :
    let t := after [0xC9#8, 0x20#8] { start with a := 0x10#8 }
    (t.a, t.p.toByte) = (0x10#8, 0xA4#8) := by decide
theorem test_cmp_unsigned :
    let t := after [0xC9#8, 0x01#8] { start with a := 0x80#8 }
    t.p.toByte = 0x25#8 := by decide
theorem test_cpx : let t := after [0xE0#8, 0x00#8] start; t.p.toByte = 0x27#8 := by decide
theorem test_cpy : let t := after [0xC0#8, 0xFF#8] start; t.p.toByte = 0x24#8 := by decide
theorem test_bit :
    let t := after [0x24#8, 0x10#8] (withByte 0x10 0xC0#8)
    (t.a, t.p.toByte, cycles t) = (0x00#8, 0xE6#8, some 3) := by decide
theorem test_inc :
    let t := after [0xE6#8, 0x10#8] (withByte 0x10 0xFF#8)
    (t.read 0x0010#16, t.p.toByte, cycles t) = (0x00#8, 0x26#8, some 5) := by decide
theorem test_dec :
    let t := after [0xC6#8, 0x10#8] start
    (t.read 0x0010#16, t.p.toByte, cycles t) = (0xFF#8, 0xA4#8, some 5) := by decide
theorem test_inx :
    let t := after [0xE8#8] { start with x := 0xFF#8 }
    (t.x, t.p.toByte) = (0x00#8, 0x26#8) := by decide
theorem test_iny :
    let t := after [0xC8#8] { start with y := 0x7F#8 }
    (t.y, t.p.toByte) = (0x80#8, 0xA4#8) := by decide
theorem test_dex :
    let t := after [0xCA#8] { start with x := 0x01#8 }
    (t.x, t.p.toByte) = (0x00#8, 0x26#8) := by decide
theorem test_dey : let t := after [0x88#8] start; (t.y, t.p.toByte) = (0xFF#8, 0xA4#8) := by decide
theorem test_asl_acc :
    let t := after [0x0A#8] { start with a := 0x80#8 }
    (t.a, t.p.toByte) = (0x00#8, 0x27#8) := by decide
theorem test_asl_memory :
    let t := after [0x06#8, 0x10#8] (withByte 0x10 0x41#8)
    (t.read 0x0010#16, t.p.toByte, cycles t) = (0x82#8, 0xA4#8, some 5) := by decide
theorem test_lsr :
    let t := after [0x4A#8] { start with a := 0x01#8 }
    (t.a, t.p.toByte) = (0x00#8, 0x27#8) := by decide
theorem test_rol :
    let t := after [0x2A#8] { withP 0x25#8 with a := 0x80#8 }
    (t.a, t.p.toByte) = (0x01#8, 0x25#8) := by decide
theorem test_ror :
    let t := after [0x6A#8] { withP 0x25#8 with a := 0x01#8 }
    (t.a, t.p.toByte) = (0x80#8, 0xA5#8) := by decide

/-! Control transfer, stack, flags (L1.7-L1.9, L2.5, and the examples of R220-R228). -/

theorem test_bcc : let t := after [0x90#8, 0x10#8] start; (t.pc, cycles t) = (0x8012#16, some 3) := by decide
theorem test_bcs : let t := after [0xB0#8, 0x10#8] start; (t.pc, cycles t) = (0x8002#16, some 2) := by decide
theorem test_beq_page_cross :
    let t := after [0xF0#8, 0x7F#8] { withP 0x26#8 with pc := 0x80F0#16 }
    (t.pc, cycles t) = (0x8171#16, some 4) := by decide
theorem test_bne_backwards :
    let t := after [0xD0#8, 0xFD#8] start
    (t.pc, cycles t) = (0x7FFF#16, some 4) := by decide
theorem test_bmi_to_itself :
    let t := after [0x30#8, 0xFE#8] (withP 0xA4#8)
    (t.pc, cycles t) = (0x8000#16, some 3) := by decide
theorem test_bpl_page_cross :
    let t := after [0x10#8, 0x7F#8] { start with pc := 0x80F0#16 }
    (t.pc, cycles t) = (0x8171#16, some 4) := by decide
theorem test_bvc_not_taken :
    let t := after [0x50#8, 0x10#8] (withP 0x64#8)
    (t.pc, cycles t) = (0x8002#16, some 2) := by decide
theorem test_bvs : let t := after [0x70#8, 0x10#8] (withP 0x64#8); (t.pc, cycles t) = (0x8012#16, some 3) := by decide
/-- The pseudocode of R220: the target is in the page of the address after the branch (log entry 22). -/
theorem test_branch_wraps :
    let t := after [0x10#8, 0x00#8] { start with pc := 0xFFFE#16 }
    (t.pc, cycles t) = (0x0000#16, some 3) := by decide
theorem test_jmp : let t := after [0x4C#8, 0x34#8, 0x12#8] start; (t.pc, cycles t) = (0x1234#16, some 3) := by decide
theorem test_jmp_page_wrap :
    let t := after [0x6C#8, 0xFF#8, 0x10#8] { start with ram := [(0x000, 0x40#8), (0x100, 0x80#8)] }
    (t.pc, cycles t) = (0x4000#16, some 5) := by decide
theorem test_jsr :
    let t := after [0x20#8, 0x00#8, 0x90#8] start
    (t.pc, t.sp, t.read 0x01FD#16, t.read 0x01FC#16) = (0x9000#16, 0xFB#8, 0x80#8, 0x02#8) := by decide
theorem test_jsr_stack_wraps :
    let t := after [0x20#8, 0x00#8, 0x90#8] { start with sp := 0x00#8 }
    (t.sp, t.read 0x0100#16, t.read 0x01FF#16) = (0xFE#8, 0x80#8, 0x02#8) := by decide
theorem test_rts :
    let t := after [0x60#8] { start with sp := 0xFB#8, ram := [(0x1FC, 0x02#8), (0x1FD, 0x80#8)] }
    (t.pc, t.sp, cycles t) = (0x8003#16, 0xFD#8, some 6) := by decide
theorem test_brk :
    let t := after [0x00#8, 0xEA#8] { withP 0x20#8 with cart := some { size := .kib16, prg := [(0x3FFF, 0x90#8)] } }
    (t.pc, t.sp, t.p.toByte, t.read 0x01FB#16, cycles t) = (0x9000#16, 0xFA#8, 0x24#8, 0x30#8, some 7) := by decide
theorem test_brk_return_address :
    let t := after [0x00#8, 0xEA#8] { withP 0x20#8 with cart := some { size := .kib16, prg := [(0x3FFF, 0x90#8)] } }
    (t.read 0x01FD#16, t.read 0x01FC#16) = (0x80#8, 0x02#8) := by decide
theorem test_rti :
    let t := after [0x40#8] { start with sp := 0xFA#8, ram := [(0x1FB, 0xFF#8), (0x1FC, 0x02#8), (0x1FD, 0x90#8)] }
    (t.p.toByte, t.pc, t.sp, cycles t) = (0xEF#8, 0x9002#16, 0xFD#8, some 6) := by decide
theorem test_pha_wraps :
    let t := after [0x48#8] { start with a := 0x77#8, sp := 0x00#8 }
    (t.read 0x0100#16, t.sp) = (0x77#8, 0xFF#8) := by decide
theorem test_php :
    let t := after [0x08#8] (withP 0xE7#8)
    (t.read 0x01FD#16, t.sp, t.p.toByte) = (0xF7#8, 0xFC#8, 0xE7#8) := by decide
theorem test_pla_wraps :
    let t := after [0x68#8] { start with sp := 0xFF#8, ram := [(0x100, 0x80#8)] }
    (t.a, t.p.toByte, t.sp) = (0x80#8, 0xA4#8, 0x00#8) := by decide
theorem test_plp :
    let t := after [0x28#8] { start with sp := 0xFC#8, ram := [(0x1FD, 0xFF#8)] }
    (t.p.toByte, t.sp) = (0xEF#8, 0xFD#8) := by decide
theorem test_plp_zero : let t := after [0x28#8] { start with sp := 0xFC#8 }; t.p.toByte = 0x20#8 := by decide
theorem test_clc : let t := after [0x18#8] (withP 0x25#8); t.p.toByte = 0x24#8 := by decide
theorem test_sec : let t := after [0x38#8] (withP 0x24#8); t.p.toByte = 0x25#8 := by decide
theorem test_cli : let t := after [0x58#8] (withP 0x24#8); t.p.toByte = 0x20#8 := by decide
theorem test_sei : let t := after [0x78#8] (withP 0x20#8); t.p.toByte = 0x24#8 := by decide
theorem test_clv : let t := after [0xB8#8] (withP 0x64#8); t.p.toByte = 0x24#8 := by decide
theorem test_sed : let t := after [0xF8#8] (withP 0x24#8); t.p.toByte = 0x2C#8 := by decide
theorem test_cld : let t := after [0xD8#8] (withP 0x2C#8); t.p.toByte = 0x24#8 := by decide
theorem test_nop :
    let t := after [0xEA#8] start
    (t.pc, t.p.toByte, cycles t) = (0x8001#16, 0x24#8, some 2) := by decide

/-! Undocumented opcodes and JAM (L1.10, L2.6). -/

theorem test_slo :
    let t := after [0x07#8, 0x10#8] { withByte 0x10 0x41#8 with a := 0x01#8 }
    (t.read 0x0010#16, t.a, t.p.toByte) = (0x82#8, 0x83#8, 0xA4#8) := by decide
theorem test_slo_no_page_cycle :
    let t := after [0x1F#8, 0xFF#8, 0x12#8] { withByte 0x300 0x01#8 with x := 0x01#8 }
    (t.read 0x1300#16, t.a, cycles t) = (0x02#8, 0x02#8, some 7) := by decide
theorem test_rla :
    let t := after [0x27#8, 0x10#8] { withByte 0x10 0x40#8 with a := 0xFF#8 }
    (t.read 0x0010#16, t.a, t.p.toByte) = (0x80#8, 0x80#8, 0xA4#8) := by decide
theorem test_sre :
    let t := after [0x47#8, 0x10#8] { withByte 0x10 0x03#8 with a := 0xFF#8 }
    (t.read 0x0010#16, t.a, t.p.toByte) = (0x01#8, 0xFE#8, 0xA5#8) := by decide
theorem test_rra_carry_feeds_the_add :
    let t := after [0x67#8, 0x10#8] (withByte 0x10 0x01#8)
    (t.read 0x0010#16, t.a, t.p.toByte) = (0x00#8, 0x01#8, 0x24#8) := by decide
theorem test_dcp :
    let t := after [0xC7#8, 0x10#8] { withByte 0x10 0x11#8 with a := 0x10#8 }
    (t.read 0x0010#16, t.a, t.p.toByte) = (0x10#8, 0x10#8, 0x27#8) := by decide
theorem test_isc :
    let t := after [0xE7#8, 0x10#8] { withP 0x25#8 with a := 0x05#8 }
    (t.read 0x0010#16, t.a, t.p.toByte) = (0x01#8, 0x04#8, 0x25#8) := by decide
theorem test_lax :
    let t := after [0xBF#8, 0xFF#8, 0x12#8] { withByte 0x300 0x00#8 with y := 0x01#8, a := 0x55#8 }
    (t.a, t.x, t.p.toByte, cycles t) = (0x00#8, 0x00#8, 0x26#8, some 5) := by decide
theorem test_sax :
    let t := after [0x87#8, 0x10#8] { start with a := 0xF0#8, x := 0x3C#8 }
    (t.read 0x0010#16, t.p.toByte) = (0x30#8, 0x24#8) := by decide
theorem test_anc :
    let t := after [0x0B#8, 0x80#8] { start with a := 0xFF#8 }
    (t.a, t.p.toByte) = (0x80#8, 0xA5#8) := by decide
theorem test_alr :
    let t := after [0x4B#8, 0x03#8] { start with a := 0xFF#8 }
    (t.a, t.p.toByte) = (0x01#8, 0x25#8) := by decide
theorem test_arr :
    let t := after [0x6B#8, 0x80#8] { start with a := 0xFF#8 }
    (t.a, t.p.toByte) = (0x40#8, 0x65#8) := by decide
theorem test_arr_carry :
    let t := after [0x6B#8, 0xFF#8] { withP 0x25#8 with a := 0xFF#8 }
    (t.a, t.p.toByte) = (0xFF#8, 0xA5#8) := by decide
theorem test_sbx :
    let t := after [0xCB#8, 0x05#8] { start with a := 0xFF#8, x := 0x0F#8 }
    (t.x, t.p.toByte) = (0x0A#8, 0x25#8) := by decide
theorem test_sbx_borrow :
    let t := after [0xCB#8, 0x01#8] { start with a := 0xFF#8 }
    (t.x, t.p.toByte) = (0xFF#8, 0xA4#8) := by decide
theorem test_sha :
    let t := after [0x9F#8, 0x00#8, 0x03#8] { start with a := 0xFF#8, x := 0xFF#8 }
    (t.read 0x0300#16, cycles t) = (0x04#8, some 5) := by decide
theorem test_sha_izy :
    let t := after [0x93#8, 0x10#8] { start with a := 0xFF#8, x := 0xFF#8, ram := [(0x11, 0x03#8)] }
    (t.read 0x0300#16, cycles t) = (0x04#8, some 6) := by decide
theorem test_shx_crossed :
    let t := after [0x9E#8, 0xFF#8, 0x02#8] { start with x := 0xFF#8, y := 0x01#8 }
    t.read 0x0300#16 = 0x03#8 := by decide
theorem test_shx :
    let t := after [0x9E#8, 0x00#8, 0x02#8] { start with x := 0x07#8, y := 0x10#8 }
    t.read 0x0210#16 = 0x03#8 := by decide
theorem test_shy_crossed :
    let t := after [0x9C#8, 0xF0#8, 0x05#8] { withByte 0x10 0x77#8 with y := 0x01#8, x := 0x20#8 }
    t.read 0x0010#16 = 0x00#8 := by decide
theorem test_shy :
    let t := after [0x9C#8, 0x00#8, 0x01#8] { start with y := 0xFF#8 }
    t.read 0x0100#16 = 0x02#8 := by decide
theorem test_tas :
    let t := after [0x9B#8, 0x00#8, 0x07#8] { withByte 0x700 0x77#8 with a := 0xF0#8, x := 0x3F#8 }
    (t.sp, t.read 0x0700#16, cycles t) = (0x30#8, 0x00#8, some 5) := by decide
theorem test_las :
    let t := after [0xBB#8, 0x00#8, 0x03#8] (withByte 0x300 0x0F#8)
    (t.a, t.x, t.sp, t.p.toByte) = (0x0D#8, 0x0D#8, 0x0D#8, 0x24#8) := by decide
theorem test_usbc :
    let t := after [0xEB#8, 0x01#8] { withP 0x25#8 with a := 0x10#8 }
    (t.a, t.p.toByte) = (0x0F#8, 0x25#8) := by decide
theorem test_nop_alias_crossed :
    let t := after [0x1C#8, 0xFF#8, 0x12#8] { start with x := 0x01#8 }
    (t.pc, t.a, cycles t) = (0x8003#16, 0x00#8, some 5) := by decide
theorem test_nop_alias_video : after [0x0C#8, 0x00#8, 0x20#8] start =
    { start with pc := 0x8003#16, report := some ⟨4, .ok⟩ } := by decide
theorem test_jam : after [0x02#8] start = { start with halted := true, pc := 0x8001#16, report := some ⟨0, .halted⟩ } := by
  decide
theorem test_step_after_jam : stepped (after [0x02#8] start) = some (after [0x02#8] start) := by decide
/-- ANE with A = 0xFF gives X AND m for every ANE_CONST (L2.6). -/
theorem test_ane : (after [0x8B#8, 0x3C#8] { start with a := 0xFF#8, x := 0x0F#8 }).a = 0x0C#8 := by
  have h : ∀ c : Byte, (0xFF#8 ||| c) &&& 0x0F#8 &&& 0x3C#8 = 0x0C#8 := by decide
  exact h _
/-- LXA with A = 0xFF gives m for every LXA_CONST (L2.6). -/
theorem test_lxa : (after [0xAB#8, 0x5A#8] { start with a := 0xFF#8 }).x = 0x5A#8 := by
  have h : ∀ c : Byte, (0xFF#8 ||| c) &&& 0x5A#8 = 0x5A#8 := by decide
  exact h _

/-! Launch, reset and the fetch (L2.1, L2.7). -/

theorem test_launch : let s := State.launch (some { size := .kib16, prg := [(0x3FFD, 0x80#8)] }) 1#8 2#8 3#8 []; (s.pc, s.sp, s.p.toByte, s.a) = (0x8000#16, 0xFD#8, 0x24#8, 1#8) := by
  decide
theorem test_host_reset_keeps_ram :
    let t := { withByte 0x10 0x5A#8 with halted := true, p := Status.ofByte 0xFF#8 }.hostReset 0#8 0#8 0#8
    (t.halted, t.read 0x0010#16, t.p.toByte) = (false, 0x5A#8, 0x24#8) := by decide
theorem test_step_no_cartridge :
    (stepped { State.reset with ram := [(0, 0xE8#8)] }).map (fun t => (t.x, t.pc, cycles t)) = some (0x01#8, 0x0001#16, some 2) := by
  decide
theorem test_with_fetch_word :
    (stepped (State.reset.withFetchWord 16 0x50A9)).map (fun t => (t.a, t.pc)) = some (0x50#8, 0x0002#16) := by decide

/-! WITNESSES: for each statement with hypotheses, a concrete input that meets them together. -/

/-- The state after an instruction, for the hypotheses `exec i s = .next t`. -/
def execNext (i : Instr) (s : State) : State :=
  match exec i s with
  | .next t => t
  | .fault _ => s
  | .refused _ => s

theorem witness_DecodeOfEncodeIsTheInstruction : (Instr.ldaImm 0x42#8).wellFormed = true := by decide
theorem witness_DecodedBytesAreTheEncoding :
    decode [0xBD#8, 0xFF#8, 0x12#8, 0xEA#8] = .ok (.ldaAbx 0x12FF#16, [0xEA#8]) := rfl
theorem witness_StepRunsTheDecodedInstruction :
    let s := State.reset.withFetchWord 16 0x50A9
    s.halted = false ∧ (Instr.ldaImm 0x50#8).wellFormed = true ∧
      decode [s.read s.pc, s.read (s.pc + 1#16), s.read (s.pc + 2#16)] = .ok (.ldaImm 0x50#8, [0x00#8]) :=
  ⟨by decide, by decide, rfl⟩
theorem witness_HaltedStepChangesNothing : { start with halted := true }.halted = true := by decide
theorem witness_StepKeepsTheInvariant :
    start.Inv ∧ stepped start = some { (after [0x00#8] start) with report := some ⟨7, .ok⟩ } := by
  refine ⟨⟨⟨rfl, rfl⟩, by decide, ?_⟩, by decide⟩
  intro c hc
  cases hc
  decide
theorem witness_ResetMeetsTheInvariant :
    Memory.wf ramSize [(0, 0x5A#8), (2047, 0x01#8)] ∧ (Cartridge.mk .kib16 [(0x3FFC, 0x80#8)]).wf := by decide
theorem witness_LaunchState :
    (none : Option Cartridge) = none ∧ (State.launch none 1#8 2#8 3#8 []).pc = 0x0000#16 := by decide
theorem witness_HostResetKeepsRamAndCartridge :
    step { start with halted := true } = .next { start with halted := true, report := some ⟨0, .halted⟩ } := eq_next (by decide)
theorem witness_StepLeavesTheCartridge :
    let s := start.withFetchWord 24 0x20008D
    step s = .next { s with pc := 0x8003#16, report := some ⟨4, .ok⟩ } ∧ 0x2000 ≤ (0x2000#16).toNat ∧
      0x2000 ≤ (0xFFFF#16).toNat := ⟨eq_next (by decide), by decide, by decide⟩
theorem witness_OnlyJamSetsHalted :
    exec (.jam .op02) start = .next { start with halted := true, pc := 0x8001#16, report := some ⟨0, .halted⟩ } := eq_next (by decide)
theorem witness_OnlyJamSetsHalted_other :
    exec (.nopImp .op1A) start = .next { start with pc := 0x8001#16, report := some ⟨2, .ok⟩ } := eq_next (by decide)
theorem witness_JamHaltsAndChangesNothingElse :
    (Instr.jam .opF2).mnemonic = .jam ∧ exec (.jam .opF2) start = .next (execNext (.jam .opF2) start) := ⟨rfl, eq_next (by decide)⟩
theorem witness_CyclesOfEveryInstruction :
    let s := { start with x := 0x01#8 }
    exec (.ldaAbx 0x12FF#16) s = .next { s with
      a := 0x00#8
      p := Status.ofByte 0x26#8
      pc := 0x8003#16
      report := some ⟨5, .ok⟩ } ∧
    (Instr.jam .op02).mnemonic = .jam := ⟨eq_next (by decide), rfl⟩
theorem witness_BusWriteIsSeenThroughEveryMirror :
    sameRamByte 0x0000#16 0x1800#16 ∧ sameRamByte 0x1FFF#16 0x07FF#16 ∧ ¬ sameRamByte 0x1FFF#16 0x2000#16 ∧
      ¬ sameRamByte 0x0000#16 0x0001#16 := by
  unfold sameRamByte; decide
theorem witness_BusDecoderBranches :
    (0x1FFF#16).toNat ≤ 0x1FFF ∧ 0x2000 ≤ (0x2000#16).toNat ∧ (0x7FFF#16).toNat ≤ 0x7FFF ∧
      (0x8000 ≤ (0x8000#16).toNat ∧ State.reset.cart = none) ∧
      (0x8000 ≤ (0xFFFF#16).toNat ∧ start.cart = some { size := .kib16, prg := [] }) := by decide
theorem witness_SixteenKibImageFolds :
    (start.cart = some { size := .kib16, prg := [] } ∧ 0x8000 ≤ (0x8000#16).toNat ∧ (0xBFFF#16).toNat ≤ 0xBFFF) ∧
      { start with cart := some { size := .kib32, prg := [] } }.cart = some { size := .kib32, prg := [] } := by decide
theorem witness_AttachChecksTheImageSize :
    Cartridge.ofBytes (List.replicate 16384 0x00#8) =
      .ok { size := .kib16, prg := Memory.cellsFrom 0 (List.replicate 16384 0x00#8) } := by
  unfold Cartridge.ofBytes programSizeOf; rw [List.length_replicate]; rfl
theorem witness_EqualStorageIsEqualData :
    Memory.wf 2048 [(3, 0x02#8)] ∧ (∀ k, Memory.read [(3, 0x02#8)] k = Memory.read [(3, 0x02#8)] k) := ⟨by decide, fun _ => rfl⟩
theorem witness_IndirectJumpWrapsInItsPage :
    (0x10FF#16).toNat % 256 = 0xFF ∧ (0x10FE#16).toNat % 256 ≠ 0xFF ∧
      (Instr.jmpInd 0x10FF#16).operand = .mem (.ind 0x10FF#16) := by decide
theorem witness_LoadsSetTheRegisterAndNZ :
    start.halted = false ∧
      (Instr.ldaIzy 0x10#8).mnemonic = .lda ∧
      (Instr.ldxZpy 0xF0#8).mnemonic = .ldx ∧
      (Instr.ldyImm 0xFF#8).mnemonic = .ldy := by decide
theorem witness_StoresWriteTheRegister :
    start.halted = false ∧
      (Instr.staAbx 0x12FF#16).mnemonic = .sta ∧
      (Instr.stxZpy 0xF0#8).mnemonic = .stx ∧
      (Instr.styAbs 0x2000#16).mnemonic = .sty := by decide
theorem witness_TransfersCopyARegister :
    start.halted = false ∧
      (Instr.tax).mnemonic = .tax ∧
      (Instr.tay).mnemonic = .tay ∧
      (Instr.txa).mnemonic = .txa ∧
      (Instr.tya).mnemonic = .tya ∧
      (Instr.tsx).mnemonic = .tsx ∧
      (Instr.txs).mnemonic = .txs := by decide
theorem witness_AdcAddsWithCarry :
    start.halted = false ∧
      (Instr.adcImm 0x50#8).mnemonic = .adc ∧
      (Instr.adcIzx 0xFF#8).mnemonic = .adc := by decide
theorem witness_SbcSubtractsWithBorrow :
    start.halted = false ∧
      (Instr.sbcImm 0xF0#8).mnemonic = .sbc ∧
      (Instr.usbcImm 0x01#8).mnemonic = .sbc := by decide
theorem witness_LogicCombinesWithA :
    start.halted = false ∧
      (Instr.andImm 0x0F#8).mnemonic = .and ∧
      (Instr.oraZp 0x10#8).mnemonic = .ora ∧
      (Instr.eorAby 0xFFFF#16).mnemonic = .eor := by decide
theorem witness_ComparesSetCarryZeroNegative :
    start.halted = false ∧
      (Instr.cmpImm 0x20#8).mnemonic = .cmp ∧
      (Instr.cpxZp 0x00#8).mnemonic = .cpx ∧
      (Instr.cpyAbs 0x1FFF#16).mnemonic = .cpy := by decide
theorem witness_BitCopiesOperandBits :
    start.halted = false ∧
      (Instr.bitZp 0x10#8).mnemonic = .bit := by decide
theorem witness_IncAndDecChangeMemoryByOne :
    start.halted = false ∧
      (Instr.incAbx 0x12FF#16).mnemonic = .inc ∧
      (Instr.decAbs 0x8000#16).mnemonic = .dec := by decide
theorem witness_IndexRegistersStepByOne :
    start.halted = false ∧
      (Instr.inx).mnemonic = .inx ∧
      (Instr.iny).mnemonic = .iny ∧
      (Instr.dex).mnemonic = .dex ∧
      (Instr.dey).mnemonic = .dey := by decide
theorem witness_ShiftsAndRotatesMoveOneBit :
    start.halted = false ∧
      (Instr.aslAcc).mnemonic = .asl ∧
      (Instr.lsrZp 0x10#8).mnemonic = .lsr ∧
      (Instr.rolAcc).mnemonic = .rol ∧
      (Instr.rorAbx 0x12FF#16).mnemonic = .ror := by decide
theorem witness_BranchesAddTheOffset :
    start.halted = false ∧
      (Instr.bccRel 0x80#8).mnemonic = .bcc ∧
      (Instr.bcsRel 0x80#8).mnemonic = .bcs ∧
      (Instr.beqRel 0x80#8).mnemonic = .beq ∧
      (Instr.bneRel 0x80#8).mnemonic = .bne ∧
      (Instr.bmiRel 0x80#8).mnemonic = .bmi ∧
      (Instr.bplRel 0x80#8).mnemonic = .bpl ∧
      (Instr.bvcRel 0x80#8).mnemonic = .bvc ∧
      (Instr.bvsRel 0x80#8).mnemonic = .bvs := by decide
theorem witness_BranchesAddTheOffset_conditions :
    [!start.p.c, start.p.c, start.p.z, !start.p.z, start.p.n, !start.p.n, !start.p.v, start.p.v] =
      [true, false, false, true, false, true, true, false] := by decide
theorem witness_JmpGoesToTheResolvedAddress :
    start.halted = false ∧
      (Instr.jmpAbs 0x1234#16).mnemonic = .jmp ∧
      (Instr.jmpInd 0x10FF#16).mnemonic = .jmp := by decide
theorem witness_JsrPushesTheReturnAddress : { start with sp := 0x00#8 }.halted = false := by decide
theorem witness_RtsPopsTheReturnAddress : { start with sp := 0xFE#8 }.halted = false := by decide
theorem witness_BrkTakesTheTrap :
    start.halted = false ∧ State.reset.cart = none ∧ (execNext .brk State.reset).pc = 0x0000#16 := by decide
theorem witness_RtiRestoresStatusAndPc : { start with sp := 0xFD#8 }.halted = false := by decide
theorem witness_PushInstructionsStoreOnTheStack :
    start.halted = false ∧
      (Instr.pha).mnemonic = .pha ∧
      (Instr.php).mnemonic = .php := by decide
theorem witness_PullInstructionsLoadFromTheStack :
    start.halted = false ∧
      (Instr.pla).mnemonic = .pla ∧
      (Instr.plp).mnemonic = .plp := by decide
theorem witness_FlagInstructionsChangeOneFlag :
    start.halted = false ∧
      (Instr.clc).mnemonic = .clc ∧
      (Instr.cld).mnemonic = .cld ∧
      (Instr.cli).mnemonic = .cli ∧
      (Instr.clv).mnemonic = .clv ∧
      (Instr.sec).mnemonic = .sec ∧
      (Instr.sed).mnemonic = .sed ∧
      (Instr.sei).mnemonic = .sei := by decide
theorem witness_FlagInstructionsChangeOneFlag_overflow :
    let s := { start with a := 0x50#8 }
    exec (.adcImm 0x50#8) s = .next (execNext (.adcImm 0x50#8) s) ∧ s.p.v = false ∧
      (execNext (.adcImm 0x50#8) s).p.v = true := ⟨eq_next (by decide), by decide, by decide⟩
theorem witness_NopsOnlyAdvance :
    start.halted = false ∧
      (Instr.nop).mnemonic = .nop ∧
      (Instr.nopAbx .opFC 0x12FF#16).mnemonic = .nop ∧
      (Instr.nopImm .op80 0x55#8).mnemonic = .nop := by decide
theorem witness_SloRlaSreShiftThenCombine :
    start.halted = false ∧
      (Instr.sloAbx 0x12FF#16).mnemonic = .slo ∧
      (Instr.rlaZp 0x10#8).mnemonic = .rla ∧
      (Instr.sreIzy 0x10#8).mnemonic = .sre := by decide
theorem witness_RraDcpIscChangeThenCompute :
    start.halted = false ∧
      (Instr.rraAby 0x12FF#16).mnemonic = .rra ∧
      (Instr.dcpIzx 0xFF#8).mnemonic = .dcp ∧
      (Instr.iscZpx 0x10#8).mnemonic = .isc := by decide
theorem witness_LaxSaxLasMoveSeveralRegisters :
    start.halted = false ∧
      (Instr.laxZpy 0xF0#8).mnemonic = .lax ∧
      (Instr.saxIzx 0x10#8).mnemonic = .sax ∧
      (Instr.lasAby 0x0300#16).mnemonic = .las := by decide
theorem witness_AncAlrArrSbxOnTheAccumulator :
    start.halted = false ∧
      (Instr.ancImm .op2B 0x80#8).mnemonic = .anc ∧
      (Instr.alrImm 0x03#8).mnemonic = .alr ∧
      (Instr.arrImm 0x80#8).mnemonic = .arr ∧
      (Instr.sbxImm 0x05#8).mnemonic = .sbx := by decide
theorem witness_AneLxaUseTheOpenConstants :
    start.halted = false ∧
      (Instr.aneImm 0x3C#8).mnemonic = .ane ∧
      (Instr.lxaImm 0x5A#8).mnemonic = .lxa := by decide
theorem witness_AneLxaUseTheOpenConstants_clauses :
    let s := { start with a := 0xFF#8 }
    (exec (.aneImm 0x3C#8) s = .next (execNext (.aneImm 0x3C#8) s) ∧ s.a = 0xFF#8 ∧ s.x &&& 0x3C#8 = 0x00#8) ∧
      exec (.lxaImm 0x00#8) s = .next (execNext (.lxaImm 0x00#8) s) ∧ (0x00#8 : Byte) = 0x00#8 :=
  ⟨⟨rfl, by decide, by decide⟩, rfl, rfl⟩
theorem witness_HighAndStoresMaskWithTheBasePage :
    start.halted = false ∧
      (Instr.shaIzy 0x10#8).mnemonic = .sha ∧
      (Instr.shxAby 0x02FF#16).mnemonic = .shx ∧
      (Instr.shyAbx 0x05F0#16).mnemonic = .shy ∧
      (Instr.tasAby 0x0700#16).mnemonic = .tas := by decide
theorem witness_RegisterWriteSets :
    exec (.aslAcc) start = .next (execNext .aslAcc start) ∧ (Instr.aslAcc).operand = .acc ∧
      exec (.aslZp 0x10#8) start = .next (execNext (.aslZp 0x10#8) start) ∧ (Instr.aslZp 0x10#8).operand ≠ .acc ∧
      (Instr.aslZp 0x10#8).mnemonic ∉ transfers := ⟨eq_next (by decide), by decide, eq_next (by decide), by decide, by decide⟩
theorem witness_FlagWriteSets :
    exec .inx start = .next (execNext .inx start) ∧ Mnemonic.inx ∉ writesC ∧ exec .plp start = .next (execNext .plp start) ∧
      Mnemonic.plp ∈ [Mnemonic.plp, .rti] :=
  ⟨eq_next (by decide), by decide, eq_next (by decide), by decide⟩
theorem witness_MemoryFrame_stored :
    storedAddresses (.staAbs 0x1FFF#16) start = [0x1FFF#16] := by decide
theorem witness_MemoryFrameOfEveryInstruction :
    exec (.staAbs 0x1FFF#16) start = .next (execNext (.staAbs 0x1FFF#16) start) ∧
      (∀ a ∈ storedAddresses (.staAbs 0x1FFF#16) start, ¬ sameRamByte a 0x2000#16) ∧
      (∀ a ∈ storedAddresses (.staAbs 0x1FFF#16) start, ¬ sameRamByte a 0x07FE#16) := by
  rw [witness_MemoryFrame_stored]
  refine ⟨eq_next (by decide), ?_, ?_⟩ <;> simp only [List.mem_singleton, forall_eq, sameRamByte] <;> decide
theorem witness_BrkThenRtiReturns : { start with sp := 0x00#8 }.StatusOk := ⟨rfl, rfl⟩
theorem witness_PushThenPullRestores : { start with sp := 0x00#8 }.StatusOk := ⟨rfl, rfl⟩
theorem witness_DecimalModeIsInert :
    (Instr.adcImm 0x01#8).mnemonic ∉ [Mnemonic.php, .brk] ∧ (Instr.adcImm 0x01#8).mnemonic ∉ writesD ∧
      Instr.sed.mnemonic ∉ [Mnemonic.php, .brk] ∧ Instr.sed.mnemonic ∈ writesD := by decide
theorem witness_InterruptDisableMasksNothing :
    (Instr.adcImm 0x01#8).mnemonic ∉ writesI ∧ Instr.cli.mnemonic ∈ writesI ∧
      exec .brk start = .next (execNext .brk start) ∧
      exec .brk (withI false start) = .next (execNext .brk (withI false start)) :=
  ⟨by decide, by decide, eq_next (by decide), eq_next (by decide)⟩

end Sys2Proof.Tests
end

section
/-! SUPPORT. The trap operations, field by field: what taking the trap and returning from it leave (Machine/Ops.lean),
so that a proof about BRK or RTI does not unfold them. -/

namespace Sys2Proof.Machine

/-- A vector of the cartridge window is not changed by a push. -/
@[simp] theorem State.vector_break_push (s : State) (v : Byte) :
    (s.push v).vector breakVector = s.vector breakVector :=
  s.vector_break_write (stackAddr s.sp) v

@[simp] theorem State.vector_break_pushAddr (s : State) (a : Addr) :
    (s.pushAddr a).vector breakVector = s.vector breakVector := by
  simp [State.pushAddr]

@[simp] theorem State.takeBreak_a (s : State) : s.takeBreak.a = s.a := by simp [State.takeBreak]
@[simp] theorem State.takeBreak_x (s : State) : s.takeBreak.x = s.x := by simp [State.takeBreak]
@[simp] theorem State.takeBreak_y (s : State) : s.takeBreak.y = s.y := by simp [State.takeBreak]
@[simp] theorem State.takeBreak_sp (s : State) : s.takeBreak.sp = s.sp - 1#8 - 1#8 - 1#8 := by simp [State.takeBreak]
@[simp] theorem State.takeBreak_p (s : State) : s.takeBreak.p = { s.p with i := true } := by simp [State.takeBreak]
@[simp] theorem State.takeBreak_halted (s : State) : s.takeBreak.halted = s.halted := by simp [State.takeBreak]
@[simp] theorem State.takeBreak_cart (s : State) : s.takeBreak.cart = s.cart := by simp [State.takeBreak]

/-- The trap goes where the vector at 0xFFFE points: its own three pushes cannot change that vector. -/
@[simp] theorem State.takeBreak_pc (s : State) : s.takeBreak.pc = s.vector breakVector := by
  simp only [State.takeBreak, State.vector_break_push, State.vector_break_pushAddr]
  rfl

@[simp] theorem State.returnFromBreak_a (s : State) : s.returnFromBreak.a = s.a := by simp [State.returnFromBreak]
@[simp] theorem State.returnFromBreak_x (s : State) : s.returnFromBreak.x = s.x := by simp [State.returnFromBreak]
@[simp] theorem State.returnFromBreak_y (s : State) : s.returnFromBreak.y = s.y := by simp [State.returnFromBreak]
@[simp] theorem State.returnFromBreak_halted (s : State) : s.returnFromBreak.halted = s.halted := by
  simp [State.returnFromBreak]
@[simp] theorem State.returnFromBreak_ram (s : State) : s.returnFromBreak.ram = s.ram := by
  simp [State.returnFromBreak]
@[simp] theorem State.returnFromBreak_cart (s : State) : s.returnFromBreak.cart = s.cart := by
  simp [State.returnFromBreak]

/-- The three stores of the trap: PC past the padding byte, high byte first, then the status copy. -/
@[simp] theorem State.takeBreak_ram (s : State) :
    s.takeBreak.ram =
      busWrite (busWrite (busWrite s.ram (stackAddr s.sp) (highByte (s.pc + 1#16)))
        (stackAddr (s.sp - 1#8)) (lowByte (s.pc + 1#16))) (stackAddr (s.sp - 1#8 - 1#8)) s.p.pushed := by
  simp [State.takeBreak]

end Sys2Proof.Machine
end

section
/-! SUPPORT. What the handlers leave unchanged: a lemma per field of State about `Shape.Leaves`, by the mnemonic. A `row`
is a row of the summary table of 10_state.md R43: the mnemonics under which the field may change. -/

namespace Sys2Proof.Machine

open Sys2Proof.Claims (transfers)

/-- Row A of 10_state.md R43, without the four shifts. -/
def rowA : List Mnemonic :=
  [.lda, .txa, .tya, .pla, .adc, .sbc, .and, .ora, .eor, .slo, .rla, .sre, .rra, .isc, .lax, .anc, .alr, .arr, .ane,
    .lxa, .las]

/-- The four shifts, which change A in Accumulator mode and RAM in the others (10_state.md R43). -/
def shiftRow : List Mnemonic := [.asl, .lsr, .rol, .ror]

/-- Row X of 10_state.md R43. -/
def rowX : List Mnemonic := [.ldx, .tax, .tsx, .inx, .dex, .lax, .sbx, .lxa, .las]

/-- Row Y of 10_state.md R43. -/
def rowY : List Mnemonic := [.ldy, .tay, .iny, .dey]

/-- Row SP of 10_state.md R43. -/
def rowSp : List Mnemonic := [.txs, .pha, .php, .pla, .plp, .jsr, .rts, .brk, .rti, .tas, .las]

/-- Row RAM of 10_state.md R43. -/
def rowRam : List Mnemonic :=
  [.sta, .stx, .sty, .inc, .dec, .asl, .lsr, .rol, .ror, .pha, .php, .jsr, .brk, .slo, .rla, .sre, .rra, .dcp, .isc,
    .sax, .sha, .shx, .shy, .tas]

section
variable {s u : State} {m : Mnemonic} {o : Operand}

theorem Shape.Leaves.a_eq (h : Shape.Leaves s (shapeOf m) o u) (hm : m ∉ rowA)
    (hacc : m ∈ shiftRow → o ≠ .acc) : u.a = s.a := by
  cases m
  case lda | txa | tya | pla | adc | sbc | and | ora | eor | slo | rla | sre | rra | isc | lax | anc | alr | arr | ane
      | lxa | las => exact absurd hm (by decide)
  case asl | lsr | rol | ror =>
    cases h
    · exact absurd rfl (hacc (by decide))
    · rfl
  case brk | jsr | rti => cases h; simp [handleBrk, handleJsr, handleRti]
  all_goals cases h <;> rfl

theorem Shape.Leaves.x_eq (h : Shape.Leaves s (shapeOf m) o u) (hm : m ∉ rowX) : u.x = s.x := by
  cases m
  case ldx | tax | tsx | inx | dex | lax | sbx | lxa | las => exact absurd hm (by decide)
  case brk | jsr | rti => cases h; simp [handleBrk, handleJsr, handleRti]
  all_goals cases h <;> rfl

theorem Shape.Leaves.y_eq (h : Shape.Leaves s (shapeOf m) o u) (hm : m ∉ rowY) : u.y = s.y := by
  cases m
  case ldy | tay | iny | dey => exact absurd hm (by decide)
  case brk | jsr | rti => cases h; simp [handleBrk, handleJsr, handleRti]
  all_goals cases h <;> rfl

theorem Shape.Leaves.sp_eq (h : Shape.Leaves s (shapeOf m) o u) (hm : m ∉ rowSp) : u.sp = s.sp := by
  cases m
  case txs | pha | php | pla | plp | jsr | rts | brk | rti | tas | las => exact absurd hm (by decide)
  all_goals cases h <;> rfl

theorem Shape.Leaves.ram_eq (h : Shape.Leaves s (shapeOf m) o u) (hm : m ∉ rowRam) : u.ram = s.ram := by
  cases m
  case sta | stx | sty | inc | dec | asl | lsr | rol | ror | pha | php | jsr | brk | slo | rla | sre | rra | dcp | isc
      | sax | sha | shx | shy | tas => exact absurd hm (by decide)
  case rti => cases h; simp [handleRti]
  all_goals cases h <;> rfl

/-- A shift in Accumulator mode stores nothing. -/
theorem Shape.Leaves.ram_eq_of_acc (h : Shape.Leaves s (shapeOf m) .acc u) (hm : m ∈ shiftRow) : u.ram = s.ram := by
  simp only [shiftRow, List.mem_cons, List.not_mem_nil, or_false] at hm
  rcases hm with rfl | rfl | rfl | rfl <;> cases h <;> rfl

theorem Shape.Leaves.halted_eq (h : Shape.Leaves s (shapeOf m) o u) :
    u.halted = (s.halted || decide (m = .jam)) := by
  cases m
  case jam => cases h; exact (Bool.or_true _).symm
  case brk | jsr | rti => cases h; simp [handleBrk, handleJsr, handleRti]
  all_goals cases h <;> exact (Bool.or_false _).symm

theorem Shape.Leaves.pc_eq (h : Shape.Leaves s (shapeOf m) o u) (hm : m ∉ transfers) :
    u.pc = s.pc + BitVec.ofNat 16 o.length := by
  cases m
  case jmp | jsr | rts | brk | rti | bcc | bcs | beq | bne | bmi | bpl | bvc | bvs => exact absurd hm (by decide)
  all_goals cases h <;> rfl

theorem Shape.Leaves.cart_eq (h : Shape.Leaves s (shapeOf m) o u) : u.cart = s.cart := by
  cases m
  case brk | jsr | rti => cases h; simp [handleBrk, handleJsr, handleRti]
  all_goals cases h <;> rfl

/-- U and B are kept, or loaded by PLP or RTI, which force them (10_state.md R34). -/
theorem Shape.Leaves.statusOk (h : Shape.Leaves s (shapeOf m) o u) (hs : s.StatusOk) : u.StatusOk := by
  cases m
  case plp | rti => cases h; exact ⟨Status.pulled_u _, Status.pulled_b _⟩
  case brk | jsr => cases h; simpa [State.StatusOk, handleBrk, handleJsr] using hs
  all_goals cases h <;> exact hs

end

end Sys2Proof.Machine
end

section
/-! SUPPORT. Work RAM changes only by bus writes: what every chain of bus writes keeps, every instruction keeps. -/

namespace Sys2Proof.Machine

/-- One bus write of some byte at some address takes work RAM to this. -/
def BusWrite (ram ram' : Memory) : Prop := ∃ (a : Addr) (v : Byte), busWrite ram a v = ram'

/-- Finitely many bus writes take work RAM to this. -/
abbrev BusWrites : Memory → Memory → Prop := Relation.ReflTransGen BusWrite

theorem BusWrites.one (ram : Memory) (a : Addr) (v : Byte) : BusWrites ram (busWrite ram a v) :=
  .single ⟨a, v, rfl⟩

theorem BusWrites.snoc {ram ram' : Memory} (h : BusWrites ram ram') (a : Addr) (v : Byte) :
    BusWrites ram (busWrite ram' a v) :=
  h.tail ⟨a, v, rfl⟩

theorem BusWrites.wf {ram ram' : Memory} (h : BusWrites ram ram') (hr : ram.wf ramSize) : ram'.wf ramSize := by
  induction h with
  | refl => exact hr
  | tail _ w ih => obtain ⟨a, v, rfl⟩ := w; exact wf_busWrite _ a v ih

/-- Outside work RAM a read sees no bus write (20_memory.md R53, R54, R57). -/
theorem BusWrites.busRead_eq {ram ram' : Memory} (h : BusWrites ram ram') (cart : Option Cartridge) {b : Addr}
    (hb : regionOf b ≠ .workRam) : busRead ram' cart b = busRead ram cart b := by
  induction h with
  | refl => rfl
  | tail _ w ih => obtain ⟨a, v, rfl⟩ := w; simpa [busRead_busWrite, hb] using ih

theorem Shape.Leaves.busWrites {s u : State} {m : Mnemonic} {o : Operand} (h : Shape.Leaves s (shapeOf m) o u) :
    BusWrites s.ram u.ram := by
  by_cases hm : m ∈ rowRam
  · cases m
    case asl | lsr | rol | ror =>
      cases h
      · exact .refl
      · exact .one ..
    case jsr =>
      cases h
      simp only [handleJsr, State.pushAddr_ram, State.advance_ram]
      exact (BusWrites.one ..).snoc ..
    case brk =>
      cases h
      simp only [handleBrk, State.takeBreak_ram, State.advance_ram]
      exact ((BusWrites.one ..).snoc ..).snoc ..
    case sta | stx | sty | inc | dec | pha | php | slo | rla | sre | rra | dcp | isc | sax | sha | shx | shy | tas =>
      cases h; exact .one ..
    all_goals exact absurd hm (by decide)
  · rw [h.ram_eq hm]

end Sys2Proof.Machine
end

section
/-! SUPPORT. A step, inverted, and what it keeps. -/

namespace Sys2Proof.Machine

/-- A step is either the halted step, or leaves what the handler of the instruction at PC leaves, but for the report. -/
theorem step_next {s t : State} (h : step s = .next t) :
    ∃ u r, t = { u with report := r } ∧
      (u = s ∨ Shape.Leaves s (shapeOf s.fetchInstr.mnemonic) s.fetchInstr.operand u) := by
  unfold step at h
  split at h
  · injection h with h
    exact ⟨s, _, h.symm, .inl rfl⟩
  · obtain ⟨u, cycles, hu, rfl⟩ := exec_next h
    exact ⟨u, _, rfl, .inr hu⟩

theorem step_cart_eq {s t : State} (h : step s = .next t) : t.cart = s.cart := by
  obtain ⟨u, r, rfl, rfl | hu⟩ := step_next h
  · rfl
  · exact hu.cart_eq

theorem step_busWrites {s t : State} (h : step s = .next t) : BusWrites s.ram t.ram := by
  obtain ⟨u, r, rfl, rfl | hu⟩ := step_next h
  · exact .refl
  · exact hu.busWrites

theorem step_statusOk {s t : State} (h : step s = .next t) (hs : s.StatusOk) : t.StatusOk := by
  obtain ⟨u, r, rfl, rfl | hu⟩ := step_next h
  · exact hs
  · exact hu.statusOk hs

theorem step_storageOk {s t : State} (h : step s = .next t) (hs : s.StorageOk) : t.StorageOk := by
  obtain ⟨hram, hcart⟩ := hs
  exact ⟨(step_busWrites h).wf hram, step_cart_eq h ▸ hcart⟩

/-- The launch meets the invariant when the storage the host gives it is in canonical form. -/
theorem State.launch_inv {cart : Option Cartridge} {ram : Memory} (a x y : Byte) (hram : ram.wf ramSize)
    (hcart : ∀ c ∈ cart, c.wf) : (State.launch cart a x y ram).Inv :=
  ⟨⟨rfl, rfl⟩, hram, hcart⟩

end Sys2Proof.Machine
end

section
/-! SUPPORT. The state statements of 10_state.md that rest on the frame of a step. -/

namespace Sys2Proof.Proofs

open Sys2Proof.Machine

/-- Settles O8: the status part from what each handler leaves of U and B, the storage part because RAM changes only by
bus writes and the cartridge not at all. -/
theorem stepKeepsTheInvariant : Obligations.StepKeepsTheInvariant := by
  intro s t ⟨hstatus, hstorage⟩ h
  exact ⟨step_statusOk h hstatus, step_storageOk h hstorage⟩

/-- Settles O9: the launch status is 0x24, and the launch keeps the storage it is given. -/
theorem resetMeetsTheInvariant : Obligations.ResetMeetsTheInvariant := by
  have hreset : State.reset.Inv := State.launch_inv _ _ _ ⟨.nil, by simp⟩ (by simp)
  exact ⟨rfl, hreset, fun _ a x y _ hram hcart => State.launch_inv a x y hram hcart⟩

/-- Settles O13: every store of a step is a bus write, and no bus write reaches an address outside work RAM. -/
theorem stepLeavesTheCartridge : Obligations.StepLeavesTheCartridge := by
  intro s t h
  refine ⟨step_cart_eq h, fun a ha => ?_⟩
  have hregion : regionOf a ≠ .workRam := by rw [ne_eq, regionOf_workRam]; omega
  rw [State.read, step_cart_eq h]
  exact (step_busWrites h).busRead_eq s.cart hregion

/-- Settles O14: of all handlers only that of JAM writes `halted`. -/
theorem onlyJamSetsHalted : Obligations.OnlyJamSetsHalted := by
  intro i s t h
  obtain ⟨u, _, hu, rfl⟩ := exec_next h
  exact hu.halted_eq

/-- Settles O53, row by row of the summary table. -/
theorem registerWriteSets : Obligations.RegisterWriteSets := by
  intro i s t h
  obtain ⟨u, _, hu, rfl⟩ := exec_next h
  refine ⟨hu.a_eq, hu.x_eq, hu.y_eq, hu.sp_eq, hu.ram_eq, fun hm hacc => ?_, fun hm => ?_, hu.pc_eq, hu.cart_eq⟩
  · rw [hacc] at hu
    exact hu.ram_eq_of_acc hm
  · simpa [hm] using hu.halted_eq

end Sys2Proof.Proofs
end

section
/-! SUPPORT. Noninterference. D and I, and the report, are recast by any functions: a handler whose mnemonic neither
pushes nor writes what is recast commutes with the recast, so its instruction does. -/

namespace Sys2Proof.Machine

open Sys2Proof.Claims

/-- The status with D and I replaced by functions of themselves. -/
def Status.recast (fd fi : Bool → Bool) (p : Status) : Status := { p with d := fd p.d, i := fi p.i }

/-- The state with D, I and the report replaced by functions of themselves. -/
def State.recast (fd fi : Bool → Bool) (fr : Option StepReport → Option StepReport) (s : State) : State :=
  { s with p := s.p.recast fd fi, report := fr s.report }

theorem withD_eq_recast (d : Bool) : withD d = State.recast (fun _ => d) id id := rfl

theorem withI_eq_recast (i : Bool) : withI i = State.recast id (fun _ => i) id := rfl

theorem mapNext_recast_id (r : Result) : mapNext (State.recast id id id) r = r := by
  cases r <;> rfl

section
variable (fd fi : Bool → Bool) (fr : Option StepReport → Option StepReport)

@[simp] theorem State.recast_pc (s : State) : (s.recast fd fi fr).pc = s.pc := rfl

@[simp] theorem State.recast_advance (s : State) (n : Nat) :
    (s.recast fd fi fr).advance n = (s.advance n).recast fd fi fr := rfl

@[simp] theorem State.recast_push (s : State) (v : Byte) :
    (s.recast fd fi fr).push v = (s.push v).recast fd fi fr := rfl

@[simp] theorem State.recast_pushAddr (s : State) (a : Addr) :
    (s.recast fd fi fr).pushAddr a = (s.pushAddr a).recast fd fi fr := by
  simp only [State.pushAddr, State.recast_push]

@[simp] theorem State.recast_read (s : State) (a : Addr) : (s.recast fd fi fr).read a = s.read a := rfl

@[simp] theorem State.recast_resolve (s : State) (p : Place) : (s.recast fd fi fr).resolve p = s.resolve p := by
  cases p <;> rfl

/-- A completed step reports anew: nothing is left of the report that was recast. -/
theorem State.recast_complete (s : State) (n : Nat) :
    (s.recast fd fi fr).complete n = mapNext (State.recast fd fi id) (s.complete n) := rfl

/-- A handler commutes with a change of the state: the same effect and the same may-add-cycle signal. -/
def Commutes (f : State → State) (handle : State → Handled) : Prop :=
  ∀ s, handle (f s) = (f (handle s).1, (handle s).2)

/-- The handler of a shape commutes with a change of the state, whatever its operand; a branch condition does not see
the change. -/
def Shape.Commutes (f : State → State) : Shape → Prop
  | .implied handle => Machine.Commutes f handle
  | .byte handle => ∀ b, Machine.Commutes f (handle b)
  | .address handle => ∀ a, Machine.Commutes f (handle a)
  | .shift handle => ∀ t, Machine.Commutes f (handle t)
  | .branch condition => ∀ s : State, condition (f s).p = condition s.p
  | .nop => True

/-- The trap pushes D and I with the status, so it commutes with a recast of the report only. -/
theorem handleBrk_commutes : Commutes (State.recast id id fr) handleBrk := by
  intro s
  have htrap : (s.recast id id fr).takeBreak = s.takeBreak.recast id id fr := by
    simp only [State.takeBreak, State.recast_advance, State.recast_pushAddr, State.recast_push, State.recast_pc]
    generalize (s.advance 1).pushAddr (s.advance 1).pc = pushed
    rfl
  exact congrArg (·, false) htrap

variable {fd fi fr}

/-- The handlers of `shapeOf`: D stands only in what PHP and BRK push and in what `writesD` write, I likewise. -/
theorem shapeOf_commutes {m : Mnemonic} (hd : m ∈ [.php, .brk] ∨ m ∈ writesD → fd = id)
    (hi : m ∈ [.php, .brk] ∨ m ∈ writesI → fi = id) : (shapeOf m).Commutes (State.recast fd fi fr) := by
  cases m
  case php | plp | rti =>
    obtain rfl := hd (by decide)
    obtain rfl := hi (by decide)
    exact fun _ => rfl
  case brk =>
    obtain rfl := hd (by decide)
    obtain rfl := hi (by decide)
    exact handleBrk_commutes fr
  case cld | sed =>
    obtain rfl := hd (by decide)
    exact fun _ => rfl
  case cli | sei =>
    obtain rfl := hi (by decide)
    exact fun _ => rfl
  case asl | lsr | rol | ror => exact fun t _ => by cases t <;> rfl
  case nop => trivial
  case bcc | bcs | beq | bmi | bne | bpl | bvc | bvs | clc | clv | dex | dey | inx | iny | jam | pha | pla | rts | sec
      | tax | tay | tsx | txa | txs | tya => exact fun _ => rfl
  all_goals exact fun _ _ => rfl

/-- A shape whose handler commutes with a recast gives the recast answer from the recast state, but for the report. -/
theorem Shape.run_recast {shape : Shape} (h : shape.Commutes (State.recast fd fi fr)) (o : Operand) (n : Nat)
    (s : State) :
    shape.run o n (s.recast fd fi fr) = (shape.run o n s).map (mapNext (State.recast fd fi id)) := by
  cases shape <;> cases o <;>
    simp only [Shape.run, Option.map_none, Option.map_some, Option.some.injEq, runImplied, runImmediate, runRead,
      runAddress, State.recast_advance, State.recast_read, State.recast_resolve]
  case implied.imp | byte.imm | byte.mem | address.mem | shift.acc | shift.mem => rw [h]; rfl
  case branch.rel =>
    simp only [runBranch, State.recast_advance, h _]
    split <;> rfl
  all_goals rfl

theorem exec_recast {i : Instr} (hd : i.mnemonic ∈ [.php, .brk] ∨ i.mnemonic ∈ writesD → fd = id)
    (hi : i.mnemonic ∈ [.php, .brk] ∨ i.mnemonic ∈ writesI → fi = id) (s : State) :
    exec i (s.recast fd fi fr) = mapNext (State.recast fd fi id) (exec i s) := by
  apply Option.some.inj
  rw [← exec_eq, Shape.run_recast (shapeOf_commutes hd hi), exec_eq, Option.map_some]

end

/-- An instruction in Implied mode sees of the state what its handler sees. -/
theorem exec_congr_of_implied {i : Instr} {m : Mnemonic} {handle : State → Handled} {s t : State} (hi : i.mnemonic = m)
    (hm : shapeOf m = .implied handle) (h : handle (s.advance 1) = handle (t.advance 1)) : exec i s = exec i t := by
  subst hi
  rw [(exec_of_implied s handle hm).2, (exec_of_implied t handle hm).2, runImplied, runImplied, h]

/-- CLD, SED, PLP and RTI write D whole: what it was is not seen. -/
theorem exec_withD_of_writesD {i : Instr} (hm : i.mnemonic ∈ writesD) (d : Bool) (s : State) :
    exec i (withD d s) = exec i s := by
  simp only [writesD, List.mem_cons, List.not_mem_nil, or_false] at hm
  obtain hm | hm | hm | hm := hm <;> exact exec_congr_of_implied hm rfl rfl

/-- CLI, SEI, PLP and RTI write I whole; BRK pushes it first. -/
theorem exec_withI_of_writesI {i : Instr} (hb : i.mnemonic ≠ .brk) (hm : i.mnemonic ∈ writesI) (d : Bool) (s : State) :
    exec i (withI d s) = exec i s := by
  simp only [writesI, List.mem_cons, List.not_mem_nil, or_false, hb, false_or] at hm
  obtain hm | hm | hm | hm := hm <;> exact exec_congr_of_implied hm rfl rfl

/-- What BRK leaves in PC, SP and P (43_control_stack_flags.md R232). -/
theorem exec_brk_next {s t : State} (h : exec .brk s = .next t) :
    t.pc = s.vector breakVector ∧ t.sp = s.sp - 1#8 - 1#8 - 1#8 ∧ t.p = { s.p with i := true } := by
  obtain ⟨u, _, hu, rfl⟩ := exec_next h
  cases hu
  exact ⟨State.takeBreak_pc (s.advance 1), State.takeBreak_sp (s.advance 1), State.takeBreak_p (s.advance 1)⟩

end Sys2Proof.Machine
end

section
/-! SUPPORT. The noninterference statements of 10_state.md: the report, D and I. -/

namespace Sys2Proof.Proofs

open Sys2Proof.Machine Sys2Proof.Claims

/-- Settles O12: a recast of the report alone commutes with every handler, and the step's own report replaces it. -/
theorem stepDoesNotReadItsReport : Obligations.StepDoesNotReadItsReport := by
  intro s r
  have hexec : exec s.fetchInstr { s with report := r } = exec s.fetchInstr s :=
    (exec_recast (fr := fun _ => r) (fun _ => rfl) (fun _ => rfl) s).trans (mapNext_recast_id _)
  unfold step
  exact ite_congr rfl (fun _ => rfl) (fun _ => hexec)

/-- Settles O59: D is recast by a constant; the mnemonics that write D replace it whole. -/
theorem decimalModeIsInert : Obligations.DecimalModeIsInert := by
  intro i s d hpush
  refine ⟨fun hm => ?_, fun hm => exec_withD_of_writesD hm d s⟩
  rw [withD_eq_recast]
  exact exec_recast (fun h => absurd h (not_or.mpr ⟨hpush, hm⟩)) (fun _ => rfl) s

/-- Settles O60: I is recast by a constant; BRK goes to a vector that its pushes cannot change. -/
theorem interruptDisableMasksNothing : Obligations.InterruptDisableMasksNothing := by
  refine ⟨fun i s d hpush => ⟨fun hm => ?_, fun hm => ?_⟩, fun s t u d ht hu => ?_⟩
  · rw [withI_eq_recast]
    exact exec_recast (fun _ => rfl) (fun h => absurd h (not_or.mpr ⟨hpush, hm⟩)) s
  · exact exec_withI_of_writesI (fun hb => hpush (by simp [hb])) hm d s
  · obtain ⟨htpc, htsp, htp⟩ := exec_brk_next ht
    obtain ⟨hupc, husp, hup⟩ := exec_brk_next hu
    exact ⟨hupc.trans htpc.symm, husp.trans htsp.symm, hup.trans htp.symm, by rw [htp]⟩

end Sys2Proof.Proofs
end

section
/-! SUPPORT. Equations of the bus by region (20_memory.md R51-R58), and what a read of one byte of work RAM sees of a
write. -/

namespace Sys2Proof.Machine

open Sys2Proof.Claims (sameRamByte)

/-- The cartridge window (20_memory.md R51). -/
theorem regionOf_cartridge (a : Addr) : regionOf a = .cartridge ↔ 0x8000 ≤ a.toNat := by
  unfold regionOf
  repeat' split
  all_goals simp; omega

theorem regionOf_ne_workRam {a : Addr} (ha : 0x2000 ≤ a.toNat) : regionOf a ≠ .workRam := by
  rw [ne_eq, regionOf_workRam]
  omega

/-- Work RAM is read through its mirrors (20_memory.md R52). -/
theorem State.read_workRam (s : State) {a : Addr} (ha : a.toNat ≤ 0x1FFF) :
    s.read a = s.ram.read (a.toNat % 2048) := by
  simp only [State.read, busRead, (regionOf_workRam a).mpr ha, ramIndex_eq_mod]

/-- The two stub windows read 0 (20_memory.md R53, R54). -/
theorem State.read_stub (s : State) {a : Addr} (hlo : 0x2000 ≤ a.toNat) (hhi : a.toNat ≤ 0x7FFF) : s.read a = 0#8 := by
  have hcart : regionOf a ≠ .cartridge := by rw [ne_eq, regionOf_cartridge]; omega
  unfold State.read busRead
  cases h : regionOf a
  case workRam => exact absurd h (regionOf_ne_workRam hlo)
  case cartridge => exact absurd h hcart
  case video | unmapped => rfl

/-- An empty cartridge window reads 0 (20_memory.md R55). -/
theorem State.read_empty_window (s : State) {a : Addr} (ha : 0x8000 ≤ a.toNat) (hc : s.cart = none) :
    s.read a = 0#8 := by
  simp only [State.read, busRead, (regionOf_cartridge a).mpr ha, hc]

/-- The cartridge window reads program storage, folded to its size (20_memory.md R56). -/
theorem State.read_program (s : State) {a : Addr} {c : Cartridge} (ha : 0x8000 ≤ a.toNat) (hc : s.cart = some c) :
    s.read a = c.prg.read ((a.toNat - 0x8000) % c.size.bytes) := by
  simp only [State.read, busRead, (regionOf_cartridge a).mpr ha, hc, prgOffset]

/-- Work RAM is written through its mirrors (20_memory.md R52). -/
theorem State.write_workRam (s : State) {a : Addr} (ha : a.toNat ≤ 0x1FFF) (v : Byte) :
    s.write a v = { s with ram := s.ram.write (a.toNat % 2048) v } := by
  rw [State.write, busWrite, (regionOf_workRam a).mpr ha, ramIndex_eq_mod]

/-- Outside work RAM a write is ignored (20_memory.md R53, R54, R57). -/
theorem State.write_outside (s : State) {a : Addr} (ha : 0x2000 ≤ a.toNat) (v : Byte) : s.write a v = s := by
  have hsame : busWrite s.ram a v = s.ram := by
    unfold busWrite
    cases h : regionOf a
    case workRam => exact absurd h (regionOf_ne_workRam ha)
    case video | unmapped | cartridge => rfl
  rw [State.write, hsame]

/-- The condition under which a write is seen is that both addresses are one byte of work RAM (20_memory.md R52). -/
theorem sameRamByte_iff (a b : Addr) :
    sameRamByte a b ↔ regionOf a = .workRam ∧ regionOf b = .workRam ∧ ramIndex b = ramIndex a := by
  rw [sameRamByte, regionOf_workRam, regionOf_workRam, ramIndex_eq_mod, ramIndex_eq_mod, @eq_comm _ (b.toNat % 2048)]

theorem busRead_busWrite_same (ram : Memory) (cart : Option Cartridge) {a b : Addr} (v : Byte) (h : sameRamByte a b) :
    busRead (busWrite ram a v) cart b = v := by
  rw [busRead_busWrite, if_pos ((sameRamByte_iff a b).mp h)]

theorem busRead_busWrite_other (ram : Memory) (cart : Option Cartridge) {a b : Addr} (v : Byte)
    (h : ¬ sameRamByte a b) : busRead (busWrite ram a v) cart b = busRead ram cart b := by
  rw [busRead_busWrite, if_neg (mt (sameRamByte_iff a b).mpr h)]

end Sys2Proof.Machine
end

section
/-! SUPPORT. The contents of a storage: the cells of a list of bytes read back as the list, and a storage in canonical
form is its set of cells, which its reads determine. -/

namespace Sys2Proof.Machine

theorem Memory.read_fresh {m : Memory} {a : Nat} (fresh : ∀ c ∈ m, c.1 ≠ a) : m.read a = Memory.unlisted := by
  induction m with
  | nil => rfl
  | cons c rest ih =>
    rw [Memory.read, if_neg (fresh c (by simp))]
    exact ih fun d hd => fresh d (by simp [hd])

/-- The first offset of the cells reads the first byte, listed or not; the others read the rest. -/
theorem Memory.read_cellsFrom_cons (k : Nat) (b : Byte) (rest : List Byte) (a : Nat) :
    Memory.read (Memory.cellsFrom k (b :: rest)) a =
      if k = a then b else Memory.read (Memory.cellsFrom (k + 1) rest) a := by
  rw [Memory.cellsFrom]
  split
  · next hb =>
    split
    · next hk =>
      rw [hb]
      refine Memory.read_fresh fun c hc => ?_
      have := (Memory.cellsFrom_bounds _ _ c hc).1
      omega
    · rfl
  · rfl

/-- Each offset of the cells of a list of bytes reads its byte. -/
theorem Memory.read_cellsFrom (k : Nat) (bytes : List Byte) (j : Nat) (h : j < bytes.length) :
    Memory.read (Memory.cellsFrom k bytes) (k + j) = bytes[j] := by
  induction bytes generalizing k j with
  | nil => exact absurd h (Nat.not_lt_zero j)
  | cons b rest ih =>
    rw [Memory.read_cellsFrom_cons]
    cases j with
    | zero => exact if_pos rfl
    | succ j =>
      have hoffset : k + (j + 1) = k + 1 + j := by omega
      rw [if_neg (by omega), hoffset]
      exact ih (k + 1) j (Nat.lt_of_succ_lt_succ h)

/-- The cells of a storage in canonical form are the offsets that do not read as an unlisted one, with their bytes. -/
theorem Memory.mem_iff_read {size : Nat} {m : Memory} (hm : m.wf size) (k : Nat) (v : Byte) :
    (k, v) ∈ m ↔ v ≠ Memory.unlisted ∧ m.read k = v := by
  induction m with
  | nil => simp [eq_comm]
  | cons c rest ih =>
    obtain ⟨hsorted, hcells⟩ := hm
    obtain ⟨hfirst, hrest⟩ := List.pairwise_cons.mp hsorted
    have ih := ih ⟨hrest, fun d hd => hcells d (by simp [hd])⟩
    obtain ⟨a, w⟩ := c
    have hw : w ≠ Memory.unlisted := (hcells (a, w) (by simp)).2
    rw [List.mem_cons, Prod.mk.injEq, Memory.read]
    by_cases hk : a = k
    · subst hk
      have hfresh : (a, v) ∉ rest := fun h => Nat.lt_irrefl a (hfirst (a, v) h)
      simp only [hfresh, true_and, or_false, if_true]
      exact ⟨by rintro rfl; exact ⟨hw, rfl⟩, fun h => h.2.symm⟩
    · simp only [hk, Ne.symm hk, false_and, false_or, if_false, ih]

theorem programSizeOf_eq_some (bytes : List Byte) (size : ProgramSize) :
    programSizeOf bytes = some size ↔ bytes.length = size.bytes := by
  unfold programSizeOf
  split_ifs with h16 h32
  · cases size <;> simp [h16, ProgramSize.bytes]
  · cases size <;> simp [h32, ProgramSize.bytes]
  · cases size <;> simp [h16, h32]

/-- An image is accepted as a cartridge of its length that holds its bytes, and as no other. -/
theorem Cartridge.ofBytes_ok (bytes : List Byte) (c : Cartridge) :
    Cartridge.ofBytes bytes = .ok c ↔ bytes.length = c.size.bytes ∧ c.prg = Memory.cellsFrom 0 bytes := by
  obtain ⟨size, prg⟩ := c
  rw [← programSizeOf_eq_some, Cartridge.ofBytes]
  cases programSizeOf bytes <;> simp [eq_comm]

end Sys2Proof.Machine
end

section
/-! SUPPORT. Every meaning ends in a next state, and stores nowhere but at the addresses named. -/

namespace Sys2Proof.Machine

open Sys2Proof.Claims

/-- Whatever a shape answers on an operand is the end of a step: none of the modes faults or refuses. -/
theorem Shape.run_eq_complete {shape : Shape} {o : Operand} {n : Nat} {s : State} {r : Result}
    (h : shape.run o n s = some r) : ∃ (u : State) (cycles : Nat), r = u.complete cycles := by
  cases shape <;> cases o <;> simp only [Shape.run, Option.some.injEq, reduceCtorEq] at h <;> subst h
  case branch.rel =>
    unfold runBranch
    dsimp only
    split <;> exact ⟨_, _, rfl⟩
  all_goals exact ⟨_, _, rfl⟩

theorem exec_eq_complete (i : Instr) (s : State) : ∃ (u : State) (cycles : Nat), exec i s = u.complete cycles :=
  Shape.run_eq_complete (exec_eq i s)

/-- The next state of a completed step carries its report, Halted exactly when it is halted (40_execution.md R101). -/
theorem State.complete_report (u : State) (cycles : Nat) :
    ∃ t report, u.complete cycles = .next t ∧ t.report = some report ∧ (report.outcome = .halted ↔ t.halted = true) := by
  refine ⟨_, _, rfl, rfl, ?_⟩
  by_cases h : u.halted <;> simp [h]

/-- One bus write at one of these addresses takes work RAM to this. -/
def BusWriteAt (stored : List Addr) (ram ram' : Memory) : Prop := ∃ a ∈ stored, ∃ v : Byte, busWrite ram a v = ram'

/-- Finitely many bus writes at these addresses take work RAM to this. -/
abbrev BusWritesAt (stored : List Addr) : Memory → Memory → Prop := Relation.ReflTransGen (BusWriteAt stored)

theorem BusWritesAt.snoc {stored : List Addr} {ram ram' : Memory} (h : BusWritesAt stored ram ram') {a : Addr}
    (ha : a ∈ stored) (v : Byte) : BusWritesAt stored ram (busWrite ram' a v) :=
  h.tail ⟨a, ha, v, rfl⟩

theorem BusWritesAt.one {stored : List Addr} (ram : Memory) {a : Addr} (ha : a ∈ stored) (v : Byte) :
    BusWritesAt stored ram (busWrite ram a v) :=
  BusWritesAt.snoc .refl ha v

/-- A read sees no bus write whose address is not the same RAM byte as its own (20_memory.md R52). -/
theorem BusWritesAt.busRead_eq {stored : List Addr} {ram ram' : Memory} (h : BusWritesAt stored ram ram')
    (cart : Option Cartridge) {b : Addr} (hb : ∀ a ∈ stored, ¬ sameRamByte a b) :
    busRead ram' cart b = busRead ram cart b := by
  induction h with
  | refl => rfl
  | tail _ w ih =>
    obtain ⟨a, ha, v, rfl⟩ := w
    rw [busRead_busWrite_other _ _ _ (hb a ha), ih]

/-- The handler of an instruction writes RAM only at the addresses its instruction stores to. -/
theorem Shape.Leaves.busWritesAt {s u : State} {i : Instr} {m : Mnemonic} {o : Operand}
    (h : Shape.Leaves s (shapeOf m) o u) (hi : i.mnemonic = m) (ho : i.operand = o) :
    BusWritesAt (storedAddresses i s) s.ram u.ram := by
  by_cases hm : m ∈ rowRam
  · cases m
    case asl | lsr | rol | ror =>
      cases h
      · exact .refl
      · exact .one _ (by simp [storedAddresses, hi, ho]) _
    case sta | stx | sty | inc | dec | slo | rla | sre | rra | dcp | isc | sax | sha | shx | shy | tas | pha | php =>
      cases h
      exact .one _ (by simp [storedAddresses, hi, ho]) _
    case jsr =>
      cases h
      have hs : storedAddresses i s = [stackAddr s.sp, stackAddr (s.sp - 1#8)] := by simp [storedAddresses, hi, ho]
      simp only [handleJsr, State.pushAddr_ram, State.advance_ram, State.advance_sp, hs]
      exact (BusWritesAt.one _ (by simp) _).snoc (by simp) _
    case brk =>
      cases h
      have hs : storedAddresses i s = [stackAddr s.sp, stackAddr (s.sp - 1#8), stackAddr (s.sp - 1#8 - 1#8)] := by
        simp [storedAddresses, hi, ho, sub_sub]
      simp only [handleBrk, State.takeBreak_ram, State.advance_ram, State.advance_sp, hs]
      exact ((BusWritesAt.one _ (by simp) _).snoc (by simp) _).snoc (by simp) _
    all_goals exact absurd hm (by decide)
  · rw [h.ram_eq hm]

end Sys2Proof.Machine
end

section
/-! SUPPORT. The statements of 20_memory.md: the bus, program images, storage, and the memory frame of instructions. -/

namespace Sys2Proof.Proofs

open Sys2Proof.Machine Sys2Proof.Claims

/-- Settles O55: RAM changes only by bus writes at the stored addresses, the cartridge not at all. -/
theorem memoryFrameOfEveryInstruction : Obligations.MemoryFrameOfEveryInstruction := by
  intro i s t h b hb
  obtain ⟨u, _, hu, rfl⟩ := exec_next h
  rw [State.read, hu.cart_eq]
  exact (hu.busWritesAt rfl rfl).busRead_eq s.cart hb

/-- Settles O7: every meaning is the end of a step, and the halted step reports Halted. -/
theorem everyStepAnswersANextState : Obligations.EveryStepAnswersANextState := by
  refine ⟨fun i s => ?_, fun s => ?_⟩
  · obtain ⟨u, cycles, h⟩ := exec_eq_complete i s
    exact ⟨_, h⟩
  · unfold step
    split
    · next hs => exact ⟨_, _, rfl, rfl, fun _ => hs, fun _ => rfl⟩
    · obtain ⟨u, cycles, h⟩ := exec_eq_complete s.fetchInstr s
      rw [h]
      exact u.complete_report cycles

/-- Settles O17: the bus compares two addresses by their RAM byte. -/
theorem busWriteIsSeenThroughEveryMirror : Obligations.BusWriteIsSeenThroughEveryMirror := fun s _ _ v =>
  ⟨busRead_busWrite_same s.ram s.cart v, busRead_busWrite_other s.ram s.cart v, rfl⟩

/-- Settles O18, a read and a write equation per region. -/
theorem busDecoderBranches : Obligations.BusDecoderBranches := fun s _ v =>
  ⟨fun ha => ⟨s.read_workRam ha, s.write_workRam ha v⟩, fun ha => s.write_outside ha v,
    fun ha => s.read_stub ha.1 ha.2, s.read_empty_window, fun ha _ => s.read_program ha⟩

/-- Settles O19: the offset in the window is below 32768, and 0x4000 more is the same offset modulo 16384. -/
theorem sixteenKibImageFolds : Obligations.SixteenKibImageFolds := by
  intro s c a hc ha
  refine ⟨fun hsize hlow => ?_, fun hsize => ?_⟩
  · have hbytes : c.size.bytes = 16384 := by rw [hsize]; rfl
    have hhalf : (a + 0x4000#16).toNat = a.toNat + 16384 := BitVec.toNat_add_of_lt (by simp; omega)
    have hlower : (a.toNat - 0x8000) % 16384 = a.toNat - 0x8000 := by omega
    have hupper : a.toNat + 16384 - 0x8000 = a.toNat - 0x8000 + 16384 := by omega
    have hfold : s.read (a + 0x4000#16) = s.read a := by
      rw [s.read_program (by omega) hc, s.read_program ha hc, hhalf, hbytes, hupper, Nat.add_mod_right]
    exact ⟨by rw [s.read_program ha hc, hbytes, hlower], hfold⟩
  · have hbytes : c.size.bytes = 32768 := by rw [hsize]; rfl
    have hdirect : (a.toNat - 0x8000) % 32768 = a.toNat - 0x8000 := by omega
    rw [s.read_program ha hc, hbytes, hdirect]

/-- Settles O20: an image is accepted exactly at one of the two lengths, and the cartridge is the cells of its bytes. -/
theorem attachChecksTheImageSize : Obligations.AttachChecksTheImageSize := by
  refine ⟨fun bytes => ⟨?_, ?_⟩, fun bytes c h => ?_⟩
  · rintro ⟨c, h⟩
    obtain ⟨hlen, -⟩ := (Cartridge.ofBytes_ok bytes c).mp h
    cases hsize : c.size <;> rw [hsize] at hlen
    · exact .inl hlen
    · exact .inr hlen
  · rintro (h | h)
    · exact ⟨⟨.kib16, _⟩, (Cartridge.ofBytes_ok _ _).mpr ⟨h, rfl⟩⟩
    · exact ⟨⟨.kib32, _⟩, (Cartridge.ofBytes_ok _ _).mpr ⟨h, rfl⟩⟩
  · obtain ⟨hlen, hprg⟩ := (Cartridge.ofBytes_ok bytes c).mp h
    refine ⟨hlen.symm, ?_, fun k hk => ?_⟩
    · rw [Cartridge.wf, hprg, ← hlen]
      exact Memory.wf_cellsFrom bytes
    · rw [hprg, ← Memory.read_cellsFrom 0 bytes k hk, Nat.zero_add]

/-- Settles O21: both lists are sorted by offset, and their reads give them the same cells. -/
theorem equalStorageIsEqualData : Obligations.EqualStorageIsEqualData := by
  intro size m n hm hn hread
  have hcells : ∀ c, c ∈ m ↔ c ∈ n := fun (k, v) => by
    rw [Memory.mem_iff_read hm, Memory.mem_iff_read hn, hread k]
  have hirrefl : Std.Irrefl (fun c d : Host.Cell => c.1 < d.1) := ⟨fun c => Nat.lt_irrefl c.1⟩
  have hasymm : Std.Antisymm (fun c d : Host.Cell => c.1 < d.1) := ⟨fun _ _ h h' => absurd h (Nat.lt_asymm h')⟩
  exact hm.1.eq_of_mem_iff hn.1 hcells

end Sys2Proof.Proofs
end

section
/-! SUPPORT. The decoder and the encoder are inverse to each other. Both directions rest on an agreement per entry of the
opcode map: `formOf_encodes`, from a form to the bytes of what it builds, and `formOf_opcode_builds`, from an instruction
to the form that builds it. -/

namespace Sys2Proof

/-- The instructions of a form, over all values of its operand bytes. -/
inductive Form.Builds : Form → Instr → Prop where
  /-- No operand byte. -/
  | fixed (i : Instr) : Form.Builds (.fixed i) i
  /-- One operand byte. -/
  | byte (f : Byte → Instr) (b : Byte) : Form.Builds (.byte f) (f b)
  /-- Two operand bytes. -/
  | word (f : Addr → Instr) (a : Addr) : Form.Builds (.word f) (f a)

/-- The opcode byte of an instruction selects the form that builds it (30_encoding.md R80, R84). -/
theorem formOf_opcode_builds (i : Instr) : (formOf i.opcode).Builds i := by
  cases i
  case jam code | nopZp code _ | ancImm code _ | nopZpx code _ | nopImp code | nopAbx code _ | nopImm code _ =>
    cases code <;> constructor
  all_goals constructor

/-- A form takes, from the bytes after the opcode, exactly the operand bytes of an instruction it builds. -/
theorem Form.Builds.take_encode {op : Byte} {f : Form} {i : Instr} (hb : f.Builds i) (he : f.Encodes op)
    (rest : List Byte) : ∃ operands, encode i = op :: operands ∧ f.take op (operands ++ rest) = .ok (i, rest) := by
  cases hb with
  | fixed i => exact ⟨[], he, rfl⟩
  | byte f b => exact ⟨_, he b, rfl⟩
  | word f a => exact ⟨_, he a, by simp [Form.take]⟩

theorem decode_encode (i : Instr) (rest : List Byte) : decode (encode i ++ rest) = .ok (i, rest) := by
  obtain ⟨operands, hbytes, htake⟩ := (formOf_opcode_builds i).take_encode (formOf_encodes _) rest
  rw [hbytes]
  exact htake

/-- What a form takes is the encoding of what it answers: it skips no byte and reads none twice. -/
theorem Form.Encodes.eq_of_take {op : Byte} {f : Form} (he : f.Encodes op) {bytes rest : List Byte} {i : Instr}
    (h : f.take op bytes = .ok (i, rest)) : op :: bytes = encode i ++ rest := by
  unfold Form.take at h
  split at h <;> cases h
  all_goals
    simp only [Form.Encodes] at he
    simp [he]

theorem eq_encode_of_decode {bytes rest : List Byte} {i : Instr} (h : decode bytes = .ok (i, rest)) :
    bytes = encode i ++ rest := by
  cases bytes with
  | nil => cases h
  | cons op bytes => exact (formOf_encodes op).eq_of_take h

/-- Three bytes hold every form's operand bytes, so nothing is refused (30_encoding.md R81, R83). -/
theorem decode_three (op b1 b2 : Byte) : ∃ rest, decode [op, b1, b2] = .ok (decodeOpcode op b1 b2, rest) := by
  show ∃ rest, (formOf op).take op [b1, b2] = .ok ((formOf op).build b1 b2, rest)
  cases formOf op with
  | fixed i => exact ⟨[b1, b2], rfl⟩
  | byte f => exact ⟨[b2], rfl⟩
  | word f => exact ⟨[], rfl⟩

/-- The opcode of a decoded instruction is the first byte (30_encoding.md R80). -/
theorem opcode_of_decode {op : Byte} {bytes rest : List Byte} {i : Instr} (h : decode (op :: bytes) = .ok (i, rest)) :
    i.opcode = op :=
  (List.cons.inj (eq_encode_of_decode h)).1.symm

end Sys2Proof
end

section
/-! SUPPORT. What the handlers leave of the status register, flag by flag, by the flags column of 30_encoding.md R84. -/

namespace Sys2Proof.Machine

open Sys2Proof.Claims

variable {s u : State} {m : Mnemonic} {o : Operand}

/-- N and Z are written together: their columns name the same mnemonics. -/
theorem Shape.Leaves.p_nz_eq (h : Shape.Leaves s (shapeOf m) o u) (hm : m ∉ writesN) :
    u.p.n = s.p.n ∧ u.p.z = s.p.z := by
  cases m
  case adc | alr | anc | and | ane | arr | asl | bit | cmp | cpx | cpy | dcp | dec | dex | dey | eor | inc | inx | iny
      | isc | las | lax | lda | ldx | ldy | lsr | lxa | ora | pla | plp | rla | rol | ror | rra | rti | sbc | sbx | slo
      | sre | tax | tay | tsx | txa | tya => exact absurd hm (by decide)
  case brk | jsr => cases h; simp [handleBrk, handleJsr]
  all_goals cases h <;> exact ⟨rfl, rfl⟩

theorem Shape.Leaves.p_v_eq (h : Shape.Leaves s (shapeOf m) o u) (hm : m ∉ writesV) : u.p.v = s.p.v := by
  cases m
  case adc | arr | bit | clv | isc | plp | rra | rti | sbc => exact absurd hm (by decide)
  case brk | jsr => cases h; simp [handleBrk, handleJsr]
  all_goals cases h <;> rfl

theorem Shape.Leaves.p_d_eq (h : Shape.Leaves s (shapeOf m) o u) (hm : m ∉ writesD) : u.p.d = s.p.d := by
  cases m
  case cld | plp | rti | sed => exact absurd hm (by decide)
  case brk | jsr => cases h; simp [handleBrk, handleJsr]
  all_goals cases h <;> rfl

theorem Shape.Leaves.p_i_eq (h : Shape.Leaves s (shapeOf m) o u) (hm : m ∉ writesI) : u.p.i = s.p.i := by
  cases m
  case brk | cli | plp | rti | sei => exact absurd hm (by decide)
  case jsr => cases h; simp [handleJsr]
  all_goals cases h <;> rfl

theorem Shape.Leaves.p_c_eq (h : Shape.Leaves s (shapeOf m) o u) (hm : m ∉ writesC) : u.p.c = s.p.c := by
  cases m
  case adc | alr | anc | arr | asl | clc | cmp | cpx | cpy | dcp | isc | lsr | plp | rla | rol | ror | rra | rti | sbc
      | sbx | sec | slo | sre => exact absurd hm (by decide)
  case brk | jsr => cases h; simp [handleBrk, handleJsr]
  all_goals cases h <;> rfl

/-- U and B are loaded by PLP and RTI only (10_state.md R30, R31). -/
theorem Shape.Leaves.p_ub_eq (h : Shape.Leaves s (shapeOf m) o u) (hm : m ∉ [.plp, .rti]) :
    u.p.u = s.p.u ∧ u.p.b = s.p.b := by
  cases m
  case plp | rti => exact absurd hm (by decide)
  case brk | jsr => cases h; simp [handleBrk, handleJsr]
  all_goals cases h <;> exact ⟨rfl, rfl⟩

/-- PLP and RTI leave U = 1 and B = 0, whatever was pushed (43_control_stack_flags.md R233, R237). -/
theorem Shape.Leaves.statusOk_of_pull (h : Shape.Leaves s (shapeOf m) o u) (hm : m ∈ [.plp, .rti]) : u.StatusOk := by
  simp only [List.mem_cons, List.not_mem_nil, or_false] at hm
  obtain rfl | rfl := hm <;> cases h <;> exact ⟨Status.pulled_u _, Status.pulled_b _⟩

end Sys2Proof.Machine
end

section
/-! SUPPORT. The statements of 30_encoding.md: the decoder, the encoder, and the flags column of the opcode list. -/

namespace Sys2Proof.Proofs

open Sys2Proof.Machine Sys2Proof.Claims

/-- Settles O2: the opcode selects the form that built the instruction, and the form takes its operand bytes. -/
theorem decodeOfEncodeIsTheInstruction : Obligations.DecodeOfEncodeIsTheInstruction :=
  fun i rest _ => decode_encode i rest

/-- Settles O3: every entry of the opcode map builds what encodes to the bytes it took. -/
theorem decodedBytesAreTheEncoding : Obligations.DecodedBytesAreTheEncoding :=
  fun _ _ _ => eq_encode_of_decode

/-- Settles O4: three bytes are enough for every opcode, and every meaning answers a next state. -/
theorem everyOpcodeByteHasADescriptor : Obligations.EveryOpcodeByteHasADescriptor := by
  intro op b1 b2
  obtain ⟨rest, h⟩ := decode_three op b1 b2
  exact ⟨decodeOpcode op b1 b2, rest, h, opcode_of_decode h, everyStepAnswersANextState.1 _⟩

/-- Settles O54, column by column. -/
theorem flagWriteSets : Obligations.FlagWriteSets := by
  intro i s t h
  obtain ⟨u, _, hu, rfl⟩ := exec_next h
  exact ⟨fun hm => (hu.p_nz_eq hm).1, hu.p_v_eq, hu.p_d_eq, hu.p_i_eq, fun hm => (hu.p_nz_eq hm).2, hu.p_c_eq,
    hu.p_ub_eq, hu.statusOk_of_pull⟩

/-- Settles O1: the decoder evaluated on each word. -/
theorem decoderReadsWordsWrittenOut : Obligations.DecoderReadsWordsWrittenOut :=
  ⟨rfl, rfl, rfl, rfl, rfl, rfl, rfl, rfl, rfl, rfl, rfl, rfl, rfl⟩

end Sys2Proof.Proofs
end

section
/-! SUPPORT. The addressing modes by value (40_execution.md R114-R123): indexing, and the pointers that wrap in their
page. -/

namespace Sys2Proof.Machine

/-- Indexing is modulo 2^16 (40_execution.md R118, R119). -/
theorem indexed_addr_toNat (base : Addr) (index : Byte) :
    (indexed base index).addr.toNat = (base.toNat + index.toNat) % 65536 := by
  simp only [indexed, BitVec.toNat_add, zext16_toNat, Nat.reducePow]

/-- A difference of pages is a difference of high bytes (40_execution.md R109). -/
theorem highByte_bne (a b : Addr) : (highByte a != highByte b) = decide (a.toNat / 256 ≠ b.toNat / 256) := by
  rw [Bool.eq_iff_iff, bne_iff_ne, decide_eq_true_iff, ne_eq, ne_eq, ← BitVec.toNat_inj, highByte_toNat,
    highByte_toNat]

/-- An indexed mode crosses exactly when the low byte of the base overflows (40_execution.md R109). -/
theorem indexed_crossed (base : Addr) (index : Byte) :
    (indexed base index).crossed = decide (256 ≤ base.toNat % 256 + index.toNat) := by
  have hbase := base.isLt
  have hindex := index.isLt
  have haddr := indexed_addr_toNat base index
  show (highByte (indexed base index).addr != highByte base) = _
  rw [highByte_bne, haddr, decide_eq_decide]
  omega

/-- A zero-page address as a number. -/
theorem zext16_eq_ofNat (b : Byte) : zext16 b = BitVec.ofNat 16 b.toNat :=
  (BitVec.ofNat_toNat 16 b).symm

/-- A zero-page pointer is little-endian, with its second byte in page 0 too (40_execution.md R122, R123). -/
theorem State.zeroPagePointer_toNat (s : State) (t : Byte) :
    (s.zeroPagePointer t).toNat =
      256 * (s.read (BitVec.ofNat 16 ((t.toNat + 1) % 256))).toNat + (s.read (BitVec.ofNat 16 t.toNat)).toNat := by
  simp only [State.zeroPagePointer, assemble_toNat, zext16_eq_ofNat, BitVec.toNat_add, BitVec.toNat_ofNat,
    Nat.reducePow, Nat.reduceMod]

/-- A pointer ends in 0xFF when its remainder modulo 256 does (40_execution.md R121). -/
theorem lowByte_eq_ff (ptr : Addr) : lowByte ptr = 0xFF#8 ↔ ptr.toNat % 256 = 0xFF := by
  rw [← BitVec.toNat_inj, lowByte_toNat]
  rfl

/-- At the end of a page the target's high byte is at the start of the same page (40_execution.md R121). -/
theorem State.indirectTarget_samePage (s : State) {ptr : Addr} (h : ptr.toNat % 256 = 0xFF) :
    s.indirectTarget ptr = assemble (s.read (ptr &&& 0xFF00#16)) (s.read ptr) := by
  simp only [State.indirectTarget, (lowByte_eq_ff ptr).mpr h, if_true]

/-- Elsewhere it is at the next address (40_execution.md R121). -/
theorem State.indirectTarget_next (s : State) {ptr : Addr} (h : ptr.toNat % 256 ≠ 0xFF) :
    s.indirectTarget ptr = assemble (s.read (ptr + 1#16)) (s.read ptr) := by
  simp only [State.indirectTarget, mt (lowByte_eq_ff ptr).mp h, if_false]

/-- Only the row of JMP (ptr) has the indirect mode (40_execution.md R121). -/
theorem eq_jmpInd_of_operand {i : Instr} {ptr : Addr} (h : i.operand = .mem (.ind ptr)) : i = .jmpInd ptr := by
  cases i
  case jmpInd => cases h; rfl
  all_goals cases h

end Sys2Proof.Machine
end

section
/-! SUPPORT. The count of cycles (40_execution.md R107): the signal of each handler, and what a branch adds. -/

namespace Sys2Proof.Machine

open Sys2Proof.Claims

/-- The handler of a shape gives this may-add-cycle signal, whatever its operand and state. -/
def Shape.Signals (mayAdd : Bool) : Shape → Prop
  | .implied handle => ∀ s, (handle s).2 = mayAdd
  | .byte handle => ∀ b s, (handle b s).2 = mayAdd
  | .address handle => ∀ a s, (handle a s).2 = mayAdd
  | .shift handle => ∀ t s, (handle t s).2 = mayAdd
  | .branch _ => mayAdd = false
  | .nop => ∀ s, (handleNop s).2 = mayAdd

/-- The handlers that signal may_add = 1 are those of the list of 40_execution.md R110. -/
theorem shapeOf_signals (m : Mnemonic) : (shapeOf m).Signals (decide (m ∈ mayAddCycle)) := by
  cases m
  case bcc | bcs | beq | bmi | bne | bpl | bvc | bvs => rfl
  case brk | clc | cld | cli | clv | dex | dey | inx | iny | jam | nop | pha | php | pla | plp | rti | rts | sec | sed
      | sei | tax | tay | tsx | txa | txs | tya => exact fun _ => rfl
  all_goals exact fun _ _ => rfl

/-- The condition of a branch; every other shape is no branch. -/
def Shape.condition : Shape → Status → Option Bool
  | .branch condition, p => some (condition p)
  | _, _ => none

/-- The eight branches have the conditions of 43_control_stack_flags.md R221-R228. -/
theorem branchCondition_eq (m : Mnemonic) (p : Status) : branchCondition m p = (shapeOf m).condition p := by
  cases m <;> rfl

/-- The target of a branch, by value (43_control_stack_flags.md R220). -/
theorem branchTarget_eq (after : Addr) (r : Byte) : BitVec.ofInt 16 (after.toNat + r.toInt) = after + sext16 r := by
  rw [BitVec.ofInt_add, BitVec.ofInt_natCast, BitVec.ofNat_toNat, BitVec.setWidth_eq]
  rfl

/-- A branch taken costs one cycle in its page and two into another: the pages of R220's pseudocode are the high bytes
that the model compares. -/
theorem takenCycles_eq (target after : Addr) :
    1 + (highByte target != highByte after).toNat = if target.toNat / 256 = after.toNat / 256 then 1 else 2 := by
  rw [highByte_bne]
  by_cases h : target.toNat / 256 = after.toNat / 256 <;> simp [h]

theorem runBranch_taken {condition : Status → Bool} {s : State} (h : condition s.p = true) (base : Nat) (r : Byte) :
    runBranch base condition r s = { s with pc := s.pc + 2#16 + sext16 r }.complete
      (base + 1 + (highByte (s.pc + 2#16 + sext16 r) != highByte (s.pc + 2#16)).toNat) :=
  if_pos h

theorem runBranch_notTaken {condition : Status → Bool} {s : State} (h : condition s.p = false) (base : Nat)
    (r : Byte) : runBranch base condition r s = (s.advance 2).complete base :=
  if_neg (Bool.eq_false_iff.mp h)

/-- The cycles that a shape adds to its base count and the crossing bonus: one for a branch taken, another when its
target is in another page (43_control_stack_flags.md R220). -/
def Shape.extra (s : State) : Shape → Operand → Nat
  | .branch condition, .rel r =>
    if condition s.p then 1 + (highByte (s.pc + 2#16 + sext16 r) != highByte (s.pc + 2#16)).toNat else 0
  | _, _ => 0

theorem branchExtra_eq (i : Instr) (s : State) : branchExtra i s = (shapeOf i.mnemonic).extra s i.operand := by
  rw [branchExtra, branchCondition_eq]
  cases shapeOf i.mnemonic
  case branch condition =>
    cases i.operand
    case rel r =>
      cases h : condition s.p
      · simp only [Shape.condition, Shape.extra, h, Bool.false_eq_true, if_false]
      · simp only [Shape.condition, Shape.extra, h, if_true, branchTarget_eq, takenCycles_eq]
    all_goals simp only [Shape.condition, Shape.extra]; cases condition s.p <;> rfl
  all_goals rfl

/-- The end of a shape's step, with its count of cycles (40_execution.md R107). -/
theorem Shape.run_cycles {shape : Shape} {mayAdd : Bool} (hsignal : shape.Signals mayAdd) {o : Operand} {n : Nat}
    {s : State} {r : Result} (h : shape.run o n s = some r) :
    ∃ u : State, r = u.complete (n + (crossed o s && mayAdd).toNat + shape.extra s o) := by
  cases shape <;> cases o <;> simp only [Shape.run, Option.some.injEq, reduceCtorEq] at h <;> subst h
  case byte.mem | address.mem | shift.mem | nop.mem =>
    simp only [runRead, runAddress, State.resolve_advance, bonus, hsignal _]
    exact ⟨_, rfl⟩
  case branch.rel condition r =>
    cases htaken : condition s.p
    · rw [runBranch_notTaken htaken]
      exact ⟨s.advance 2, by simp [crossed, Shape.extra, htaken]⟩
    · rw [runBranch_taken htaken]
      exact ⟨{ s with pc := s.pc + 2#16 + sext16 r }, by simp [crossed, Shape.extra, htaken, Nat.add_assoc]⟩
  all_goals exact ⟨_, rfl⟩

/-- Every meaning ends with the count of R107. -/
theorem exec_cycles (i : Instr) (s : State) :
    ∃ u : State, exec i s = u.complete
      (i.baseCycles + (crossed i.operand s && decide (i.mnemonic ∈ mayAddCycle)).toNat + branchExtra i s) := by
  rw [branchExtra_eq]
  exact Shape.run_cycles (shapeOf_signals i.mnemonic) (exec_eq i s)

theorem State.complete_cycles {u t : State} {n : Nat} (h : u.complete n = .next t) :
    t.report.map StepReport.cycles = some n := by
  rw [(u.complete_next t n).mp h]
  rfl

/-- The rows of JAM have base count 0 (44_undocumented.md R293). -/
theorem baseCycles_of_jam {i : Instr} (h : i.mnemonic = .jam) : i.baseCycles = 0 := by
  cases i
  case jam => rfl
  all_goals cases h

/-- No meaning reads the report of the step before (40_execution.md R107). -/
theorem exec_report (i : Instr) (s : State) (r : Option StepReport) : exec i { s with report := r } = exec i s :=
  (exec_recast (fr := fun _ => r) (fun _ => rfl) (fun _ => rfl) s).trans (mapNext_recast_id _)

end Sys2Proof.Machine
end

section
/-! SUPPORT. The statements of 40_execution.md: the step, the cycles, the addressing modes, and the stack. -/

namespace Sys2Proof.Proofs

open Sys2Proof.Machine Sys2Proof.Claims

/-- Settles O16: every shape ends with its count, JAM's base count is 0, and a recast of the report is not seen. -/
theorem cyclesOfEveryInstruction : Obligations.CyclesOfEveryInstruction := by
  refine ⟨fun i s t h => ?_, fun i s t hjam h => ?_, exec_report⟩
  · obtain ⟨u, hu⟩ := exec_cycles i s
    exact State.complete_cycles (hu.symm.trans h)
  · obtain ⟨-, hrun⟩ := exec_of_implied (i := i) s handleJam (by rw [hjam]; rfl)
    rw [baseCycles_of_jam hjam] at hrun
    exact State.complete_cycles (hrun.symm.trans h)

/-- Settles O22, mode by mode; the indexed modes add an index to their base. -/
theorem effectiveAddressOfEachMode : Obligations.EffectiveAddressOfEachMode := by
  intro s b a
  have hindexed (t index : Byte) : (zext16 (t + index)).toNat = (t.toNat + index.toNat) % 256 := by
    rw [zext16_toNat, BitVec.toNat_add]
  refine ⟨⟨zext16_toNat b, rfl⟩, ⟨hindexed b s.x, rfl⟩, ⟨hindexed b s.y, rfl⟩, ⟨rfl, rfl⟩,
    ⟨indexed_addr_toNat a s.x, indexed_crossed a s.x⟩, ⟨indexed_addr_toNat a s.y, indexed_crossed a s.y⟩,
    ⟨?_, rfl⟩, ?_, ?_⟩
  · show (s.zeroPagePointer (b + s.x)).toNat = _
    rw [s.zeroPagePointer_toNat, BitVec.toNat_add]
  · show (indexed (s.zeroPagePointer b) s.y).addr.toNat = _
    rw [indexed_addr_toNat, s.zeroPagePointer_toNat]
  · show (indexed (s.zeroPagePointer b) s.y).crossed = _
    rw [indexed_crossed, s.zeroPagePointer_toNat]

/-- Settles O24: SP is an 8-bit value, and the byte pushed is the one that the next pop reads. -/
theorem pushAndPopAreInverse : Obligations.PushAndPopAreInverse := by
  intro s v
  have hdec : s.sp - 1#8 = BitVec.ofInt 8 (s.sp.toNat - 1) := by
    rw [Int.sub_eq_add_neg, BitVec.ofInt_add, BitVec.ofInt_natCast, BitVec.ofNat_toNat, BitVec.setWidth_eq,
      BitVec.sub_eq_add_neg]
    rfl
  have hinc : s.sp + 1#8 = BitVec.ofNat 8 (s.sp.toNat + 1) := by
    rw [BitVec.ofNat_add, BitVec.ofNat_toNat, BitVec.setWidth_eq]
  have hback : s.sp - 1#8 + 1#8 = s.sp := BitVec.sub_add_cancel s.sp 1#8
  refine ⟨?_, ?_, rfl, ?_, hback⟩
  · rw [← hdec]; rfl
  · rw [← hinc]; rfl
  · rw [State.top_eq, State.push_sp, hback, State.read_push, State.read_stack_write, if_pos rfl]

/-- Settles O5: three bytes are enough for every opcode, so the instruction that they decode to is the one fetched. -/
theorem stepRunsTheDecodedInstruction : Obligations.StepRunsTheDecodedInstruction := by
  intro s i rest hrunning _ h
  obtain ⟨rest', hfetch⟩ := decode_three (s.read s.pc) (s.read (s.pc + 1#16)) (s.read (s.pc + 2#16))
  have hi : s.fetchInstr = i := (Prod.mk.inj (Except.ok.inj (hfetch.symm.trans h))).1
  rw [step, if_neg (by simp [hrunning]), hi]

/-- Settles O23: the resolver's test is on the pointer's low byte. -/
theorem indirectJumpWrapsInItsPage : Obligations.IndirectJumpWrapsInItsPage := by
  refine ⟨fun s ptr => ⟨fun h => ?_, fun h => ?_, rfl⟩, fun _ _ => eq_jmpInd_of_operand⟩
  · exact s.indirectTarget_samePage h
  · exact s.indirectTarget_next h

end Sys2Proof.Proofs
end

section
/-! SUPPORT. What a handler does to the state apart from PC, and the meaning of the instructions that it handles
(40_execution.md R101, R106, R107, R124). -/

namespace Sys2Proof.Machine

open Sys2Proof.Claims

/-- `setNZ` is the flag rule by value: bit 7 of a byte is set from 128 on (40_execution.md R127). -/
theorem Status.setNZ_eq_nz (p : Status) (v : Byte) : p.setNZ v = nz p v := by
  have hn : v.getLsbD 7 = decide (128 ≤ v.toNat) := v.msb_eq_decide
  rw [nz, ← hn]
  rfl

/-- A handler does the effect, whatever PC is, and keeps PC and the halted condition; it gives this may-add-cycle
signal. -/
def Does (handle : State → Handled) (mayAdd : Bool) (effect : State → State) : Prop :=
  ∀ (s : State) (pc : Addr),
    handle { s with pc := pc } = ({ effect s with pc := pc }, mayAdd) ∧ (effect s).halted = s.halted

/-- What a handler leaves after the advance of PC, with the cycles of the step, is the completed instruction. -/
theorem Does.complete_eq {handle : State → Handled} {mayAdd : Bool} {effect : State → State}
    (h : Does handle mayAdd effect) {i : Instr} {o : Operand} (ho : i.operand = o) {s : State} (hs : s.halted = false) :
    (handle (s.advance o.length)).1.complete
        (i.baseCycles + bonus (crossed o s) (handle (s.advance o.length)).2) =
      completed i mayAdd s (effect s) := by
  subst ho
  obtain ⟨hhandle, hhalted⟩ := h s (s.pc + BitVec.ofNat 16 i.operand.length)
  rw [State.advance, hhandle]
  exact State.complete_running _ _ (hhalted.trans hs)

/-- Implied mode never crosses a page (40_execution.md R111). -/
theorem onImplied_of_does {m : Mnemonic} {handle : State → Handled} {effect : State → State}
    (hm : shapeOf m = .implied handle) (h : Does handle false effect) : OnImplied m effect := by
  rintro i s rfl hs
  obtain ⟨ho, hrun⟩ := exec_of_implied s handle hm
  exact ⟨ho, hrun.trans (h.complete_eq ho hs)⟩

/-- The operand byte is that of Immediate mode, or the one at the resolved address (40_execution.md R108, R113). -/
theorem onByte_of_does {m : Mnemonic} {handle : Byte → State → Handled} {mayAdd : Bool}
    {effect : Byte → State → State} (hm : shapeOf m = .byte handle) (h : ∀ v, Does (handle v) mayAdd (effect v)) :
    OnByte m mayAdd effect := by
  rintro i s rfl hs
  obtain ⟨b, ho, hrun⟩ | ⟨place, ho, hrun⟩ := exec_of_byte s handle hm
  · exact ⟨b, by rw [ho]; rfl, hrun.trans ((h b).complete_eq ho hs)⟩
  · rw [runRead, runAddress, State.resolve_advance] at hrun
    exact ⟨_, by rw [ho]; rfl, hrun.trans ((h (s.read (s.resolve place).addr)).complete_eq ho hs)⟩

/-- A handler that never asks for one more cycle, on the resolved address (40_execution.md R101). -/
theorem onAddress_of_does {m : Mnemonic} {handle : Addr → State → Handled} {effect : Addr → State → State}
    (hm : shapeOf m = .address handle) (h : ∀ a, Does (handle a) false (effect a)) : OnAddress m effect := by
  rintro i s rfl hs
  obtain ⟨place, ho, hrun⟩ := exec_of_address s handle hm
  rw [runAddress, State.resolve_advance] at hrun
  exact ⟨place, ho, hrun.trans ((h (s.resolve place).addr).complete_eq ho hs)⟩

end Sys2Proof.Machine
end

section
/-! SUPPORT. The statements of 41_load_store_transfer.md: loads, stores and transfers. The effect of each
is that of the handler of its mnemonic, which has it by definition once Z and N are those of `setNZ`. -/

namespace Sys2Proof.Proofs

open Sys2Proof.Machine Sys2Proof.Claims

/-- Settles O26: the handlers of the loads take the byte of `fetch()` in every mode. -/
theorem loadsSetTheRegisterAndNZ : Obligations.LoadsSetTheRegisterAndNZ := by
  unfold Obligations.LoadsSetTheRegisterAndNZ
  simp only [← Status.setNZ_eq_nz]
  refine ⟨?lda, ?ldx, ?ldy, onByte_of_does rfl ?_, onByte_of_does rfl ?_, onByte_of_does rfl ?_⟩
  case lda | ldx | ldy => unfold EncodedBy; decide
  all_goals exact fun _ _ _ => ⟨rfl, rfl⟩

/-- Settles O27: the handlers of the stores take the resolved address in every mode, and ask for no more cycle. -/
theorem storesWriteTheRegister : Obligations.StoresWriteTheRegister := by
  refine ⟨?sta, ?stx, ?sty, ?costs, onAddress_of_does rfl ?_, onAddress_of_does rfl ?_, onAddress_of_does rfl ?_⟩
  case sta | stx | sty => unfold EncodedBy; decide
  case costs => unfold Costs; decide
  all_goals exact fun _ _ _ => ⟨rfl, rfl⟩

/-- Settles O28: only the handler of TXS leaves the status as it is. -/
theorem transfersCopyARegister : Obligations.TransfersCopyARegister := by
  unfold Obligations.TransfersCopyARegister
  simp only [← Status.setNZ_eq_nz]
  refine ⟨?tax, ?tay, ?txa, ?tya, ?tsx, ?txs, onImplied_of_does rfl ?_, onImplied_of_does rfl ?_,
    onImplied_of_does rfl ?_, onImplied_of_does rfl ?_, onImplied_of_does rfl ?_, onImplied_of_does rfl ?_⟩
  case tax | tay | txa | tya | tsx | txs => unfold EncodedBy; decide
  all_goals exact fun _ _ => ⟨rfl, rfl⟩

end Sys2Proof.Proofs
end

section
/-! SUPPORT. Arithmetic by value (42_arith_logic_shift.md R170-R175, R179-R188): the signed overflow of the add core,
the subtraction as an addition of the inverted operand, the flags of a compare, and steps by one. -/

namespace Sys2Proof.Machine

open Sys2Proof.Claims

/-- A byte stepped up, as a number modulo 256. -/
theorem add_one_eq_ofNat (b : Byte) : b + 1#8 = BitVec.ofNat 8 (b.toNat + 1) := by
  rw [BitVec.ofNat_add, BitVec.ofNat_toNat, BitVec.setWidth_eq]

/-- A byte stepped down, as a number modulo 256. -/
theorem sub_one_eq_ofInt (b : Byte) : b - 1#8 = BitVec.ofInt 8 (b.toNat - 1) := by
  rw [Int.sub_eq_add_neg, BitVec.ofInt_add, BitVec.ofInt_natCast, BitVec.ofNat_toNat, BitVec.setWidth_eq,
    BitVec.sub_eq_add_neg]
  rfl

/-- Bit 7 of a byte is set from 128 on. -/
theorem getLsbD_seven_eq_decide (b : Byte) : b.getLsbD 7 = decide (128 ≤ b.toNat) :=
  b.msb_eq_decide

/-- The mask 0x80 tests bit 7. -/
theorem and_0x80_bne_zero (b : Byte) : (b &&& 0x80#8 != 0#8) = b.msb := by
  have hmask : b &&& 0x80#8 = if b.getLsbD 7 then 0x80#8 else 0#8 := b.and_twoPow 7
  rw [hmask]
  show _ = b.getLsbD 7
  cases b.getLsbD 7 <;> rfl

/-- A byte as a signed number: 256 less from 128 on. -/
theorem toInt_eq_cond (b : Byte) : b.toInt = if 128 ≤ b.toNat then (b.toNat : Int) - 256 else b.toNat := by
  rw [BitVec.toInt_eq_msb_cond, BitVec.msb_eq_decide]
  simp

/-- A sum overflows a signed byte exactly when the operands have one sign and the result the other
(42_arith_logic_shift.md R171): operands of two signs have a sum in range. -/
theorem signs_eq_outOfRange (a m : Byte) (carry : Bool) :
    (!(a.msb ^^ m.msb) && (a.msb ^^ (BitVec.ofNat 8 (a.toNat + m.toNat + carry.toNat)).msb)) =
      outOfRange (a.toInt + m.toInt + carry.toNat) := by
  have ha := a.isLt
  have hm := m.isLt
  have hcarry := carry.toNat_le
  rw [Bool.eq_iff_iff]
  by_cases hna : 128 ≤ a.toNat <;> by_cases hnm : 128 ≤ m.toNat
  all_goals
    simp only [outOfRange, toInt_eq_cond, BitVec.msb_eq_decide, BitVec.toNat_ofNat, hna, hnm, if_true, if_false,
      decide_true, decide_false, Bool.true_xor, Bool.false_xor, Bool.not_true, Bool.not_false, Bool.true_and,
      Bool.false_and, Bool.not_eq_true', decide_eq_true_eq, decide_eq_false_iff_not, Bool.false_eq_true, false_iff]
    omega

/-- The add core by value. -/
theorem addCore_eq (m : Byte) (s : State) : addCore s.a m s.p = ((added m s).a, (added m s).p) := by
  have hoverflow (r : Byte) : (~~~(s.a ^^^ m) &&& (s.a ^^^ r) &&& 0x80#8 != 0#8) =
      (!(s.a.msb ^^ m.msb) && (s.a.msb ^^ r.msb)) := by
    simp [and_0x80_bne_zero]
  rw [addCore, hoverflow, signs_eq_outOfRange, Status.setNZ_eq_nz]
  rfl

/-- Subtracting with borrow is adding the inverted byte with carry (42_arith_logic_shift.md R175): modulo 256 the
inverted byte is `-1 - m`, and the carry is `1 - borrow`. -/
theorem added_not (m : Byte) (s : State) : added (~~~m) s = subtracted m s := by
  have hm := m.isLt
  have hcarry := s.p.c.toNat_le
  have hunsigned : (~~~m).toNat = 255 - m.toNat := BitVec.toNat_not
  have hsigned : (~~~m).toInt = -m.toInt - 1 := by
    simp only [toInt_eq_cond, hunsigned]
    split_ifs <;> omega
  have hresult : BitVec.ofNat 8 (s.a.toNat + (~~~m).toNat + s.p.c.toNat) =
      BitVec.ofInt 8 ((s.a.toNat : Int) - m.toNat - (1 - s.p.c.toNat : Nat)) := by
    apply BitVec.eq_of_toNat_eq
    rw [BitVec.toNat_ofNat, BitVec.toNat_ofInt, hunsigned]
    omega
  have hc : decide (256 ≤ s.a.toNat + (~~~m).toNat + s.p.c.toNat) =
      decide (m.toNat + (1 - s.p.c.toNat) ≤ s.a.toNat) := by
    rw [hunsigned, decide_eq_decide]
    omega
  have hv : s.a.toInt + (~~~m).toInt + s.p.c.toNat = s.a.toInt - m.toInt - (1 - s.p.c.toNat : Nat) := by
    rw [hsigned]
    omega
  simp only [added, subtracted, hresult, hc, hv]

theorem handleAdc_eq (m : Byte) (s : State) : handleAdc m s = (added m s, true) := by
  rw [handleAdc, addCore_eq]
  rfl

theorem handleSbc_eq (m : Byte) (s : State) : handleSbc m s = (subtracted m s, true) := by
  have hnot : m ^^^ 0xFF#8 = ~~~m := BitVec.xor_allOnes
  rw [← added_not, ← hnot, ← handleAdc_eq]
  rfl

/-- The compare core by value: the low byte of the 16-bit difference is the 8-bit difference
(42_arith_logic_shift.md R172). -/
theorem compareCore_eq (r m : Byte) (p : Status) :
    compareCore r m p = { p with c := decide (m.toNat ≤ r.toNat), z := decide (r = m), n := (r - m).msb } := by
  have hlow : (zext16 r - zext16 m).setWidth 8 = r - m := by
    apply BitVec.eq_of_toNat_eq
    simp only [BitVec.toNat_setWidth, BitVec.toNat_sub, zext16_toNat]
    omega
  have hn : (zext16 r - zext16 m).getLsbD 7 = (r - m).msb := by
    rw [← hlow, BitVec.msb_eq_getLsbD_last, BitVec.getLsbD_setWidth]
    rfl
  rw [compareCore, hn]
  rfl

/-- BIT by value: N and V are bits 7 and 6 of the operand (42_arith_logic_shift.md R182). -/
theorem bitTest_eq (a m : Byte) (p : Status) :
    bitTest a m p =
      { p with z := decide (a &&& m = 0#8), n := decide (128 ≤ m.toNat), v := decide (64 ≤ m.toNat % 128) } := by
  have hv : m.getLsbD 6 = decide (64 ≤ m.toNat % 128) := by
    rw [BitVec.getLsbD, Nat.testBit_eq_decide_div_mod_eq, decide_eq_decide]
    omega
  rw [bitTest, getLsbD_seven_eq_decide, hv]
  rfl

end Sys2Proof.Machine
end

section
/-! SUPPORT. Shifts and rotates by value (42_arith_logic_shift.md R173, R189-R192): the four cores, and the handler that
they share. -/

namespace Sys2Proof.Machine

open Sys2Proof.Claims

/-- Bit 0 is the bit that a right shift moves out. -/
theorem getLsbD_zero_eq_decide (v : Byte) : v.getLsbD 0 = decide (v.toNat % 2 = 1) :=
  Nat.testBit_zero v.toNat

/-- A left shift doubles. -/
theorem shiftLeft_one_eq_ofNat (v : Byte) : v <<< 1 = BitVec.ofNat 8 (2 * v.toNat) := by
  apply BitVec.eq_of_toNat_eq
  rw [BitVec.toNat_shiftLeft, BitVec.toNat_ofNat, Nat.shiftLeft_eq, Nat.mul_comm]

/-- A right shift halves. -/
theorem ushiftRight_one_eq_ofNat (v : Byte) : v >>> 1 = BitVec.ofNat 8 (v.toNat / 2) := by
  apply BitVec.eq_of_toNat_eq
  have hv := v.isLt
  rw [BitVec.toNat_ushiftRight, BitVec.toNat_ofNat, Nat.shiftRight_eq_div_pow]
  omega

/-- A bit put where a byte has none is added to it. -/
theorem or_bitAt_eq_add {x : Byte} {k : Nat} (hx : x.getLsbD k = false) (b : Bool) :
    x ||| bitAt k b = x + bitAt k b := by
  refine (BitVec.add_eq_or_of_and_eq_zero x (bitAt k b) ?_).symm
  cases b
  · exact BitVec.and_zero
  · have hbit : x &&& bitAt k true = if x.getLsbD k then BitVec.twoPow 8 k else 0#8 := x.and_twoPow k
    rw [hbit, hx]
    rfl

/-- A left rotate doubles and adds the carry. -/
theorem rotateLeft_eq_ofNat (v : Byte) (carry : Bool) :
    v <<< 1 ||| bitAt 0 carry = BitVec.ofNat 8 (2 * v.toNat + carry.toNat) := by
  have hbit : bitAt 0 carry = BitVec.ofNat 8 carry.toNat := by cases carry <;> rfl
  rw [or_bitAt_eq_add (by simp), shiftLeft_one_eq_ofNat, hbit, BitVec.ofNat_add]

/-- A right rotate halves and adds the carry as bit 7. -/
theorem rotateRight_eq_ofNat (v : Byte) (carry : Bool) :
    v >>> 1 ||| bitAt 7 carry = BitVec.ofNat 8 (v.toNat / 2 + 128 * carry.toNat) := by
  have hbit : bitAt 7 carry = BitVec.ofNat 8 (128 * carry.toNat) := by cases carry <;> rfl
  rw [or_bitAt_eq_add (by simp), ushiftRight_one_eq_ofNat, hbit, BitVec.ofNat_add]

/-- The result of a shift or rotate, and the status with the carry it shifts out. -/
def shiftCore (result : Byte → Bool → Byte) (carryOut : Byte → Bool) (v : Byte) (p : Status) : Byte × Status :=
  (result v p.c, nz { p with c := carryOut v } (result v p.c))

theorem aslCore_eq : aslCore =
    shiftCore (fun v _ => BitVec.ofNat 8 (2 * v.toNat)) (fun v => decide (128 ≤ v.toNat)) := by
  funext v p
  rw [aslCore, getLsbD_seven_eq_decide, shiftLeft_one_eq_ofNat, Status.setNZ_eq_nz]
  rfl

theorem lsrCore_eq : lsrCore =
    shiftCore (fun v _ => BitVec.ofNat 8 (v.toNat / 2)) (fun v => decide (v.toNat % 2 = 1)) := by
  funext v p
  rw [lsrCore, getLsbD_zero_eq_decide, ushiftRight_one_eq_ofNat, Status.setNZ_eq_nz]
  rfl

theorem rolCore_eq : rolCore =
    shiftCore (fun v c => BitVec.ofNat 8 (2 * v.toNat + c.toNat)) (fun v => decide (128 ≤ v.toNat)) := by
  funext v p
  rw [rolCore, getLsbD_seven_eq_decide, rotateLeft_eq_ofNat, Status.setNZ_eq_nz]
  rfl

theorem rorCore_eq : rorCore =
    shiftCore (fun v c => BitVec.ofNat 8 (v.toNat / 2 + 128 * c.toNat)) (fun v => decide (v.toNat % 2 = 1)) := by
  funext v p
  rw [rorCore, getLsbD_zero_eq_decide, rotateRight_eq_ofNat, Status.setNZ_eq_nz]
  rfl

/-- The handler that the four shifts and rotates share, on their core (42_arith_logic_shift.md R173). -/
def shiftHandler (core : Byte → Status → Byte × Status) (t : ShiftTarget) (s : State) : Handled :=
  (t.writeBack (core (t.fetch s) s.p).1 { s with p := (core (t.fetch s) s.p).2 }, false)

theorem shiftHandler_does (core : Byte → Status → Byte × Status) (t : ShiftTarget) :
    Does (shiftHandler core t) false (fun s => (shiftHandler core t s).1) := by
  cases t <;> exact fun _ _ => ⟨rfl, rfl⟩

/-- A shift works on A in Accumulator mode, and at the resolved address in the others (40_execution.md R112). -/
theorem shifts_of_core {m : Mnemonic} {core : Byte → Status → Byte × Status} {result : Byte → Bool → Byte}
    {carryOut : Byte → Bool} (hm : shapeOf m = .shift (shiftHandler core)) (hcore : core = shiftCore result carryOut) :
    Shifts m result carryOut := by
  rintro i s rfl hs
  subst hcore
  obtain ⟨ho, hrun⟩ | ⟨place, ho, hrun⟩ := exec_of_shift s _ hm
  · exact ⟨s.a, by rw [ho]; rfl, .inl ⟨ho, hrun.trans ((shiftHandler_does _ .acc).complete_eq ho hs)⟩⟩
  · rw [runAddress, State.resolve_advance] at hrun
    exact ⟨_, by rw [ho]; rfl, .inr ⟨place, ho,
      hrun.trans ((shiftHandler_does _ (.mem (s.resolve place).addr)).complete_eq ho hs)⟩⟩

end Sys2Proof.Machine
end

section
/-! SUPPORT. The statements of 42_arith_logic_shift.md: arithmetic, logic, compares, steps by one, and shifts. -/

namespace Sys2Proof.Proofs

open Sys2Proof.Machine Sys2Proof.Claims

/-- Settles O29: the add core by value. -/
theorem adcAddsWithCarry : Obligations.AdcAddsWithCarry := by
  refine ⟨?opcodes, onByte_of_does rfl fun m s pc => ⟨handleAdc_eq m { s with pc := pc }, rfl⟩⟩
  unfold EncodedBy
  decide

/-- Settles O30: SBC is ADC of the inverted operand. -/
theorem sbcSubtractsWithBorrow : Obligations.SbcSubtractsWithBorrow := by
  refine ⟨?opcodes, onByte_of_does rfl fun m s pc => ⟨handleSbc_eq m { s with pc := pc }, rfl⟩⟩
  unfold EncodedBy
  decide

/-- Settles O31: the handlers combine A with the byte of `fetch()` in every mode. -/
theorem logicCombinesWithA : Obligations.LogicCombinesWithA := by
  unfold Obligations.LogicCombinesWithA
  simp only [← Status.setNZ_eq_nz]
  refine ⟨?and, ?ora, ?eor, onByte_of_does rfl ?_, onByte_of_does rfl ?_, onByte_of_does rfl ?_⟩
  case and | ora | eor => unfold EncodedBy; decide
  all_goals exact fun _ _ _ => ⟨rfl, rfl⟩

/-- Settles O32: the handlers run the compare core on A, X or Y. -/
theorem comparesSetCarryZeroNegative : Obligations.ComparesSetCarryZeroNegative := by
  unfold Obligations.ComparesSetCarryZeroNegative
  simp only [compared, ← compareCore_eq]
  refine ⟨?cmp, ?cpx, ?cpy, onByte_of_does rfl ?_, onByte_of_does rfl ?_, onByte_of_does rfl ?_⟩
  case cmp | cpx | cpy => unfold EncodedBy; decide
  all_goals exact fun _ _ _ => ⟨rfl, rfl⟩

/-- Settles O33: BIT tests A, and copies two bits of the operand. -/
theorem bitCopiesOperandBits : Obligations.BitCopiesOperandBits := by
  unfold Obligations.BitCopiesOperandBits
  simp only [← bitTest_eq]
  refine ⟨?opcodes, onByte_of_does rfl fun _ _ _ => ⟨rfl, rfl⟩⟩
  unfold EncodedBy
  decide

/-- Settles O34: the handlers step the byte at the resolved address in every mode. -/
theorem incAndDecChangeMemoryByOne : Obligations.IncAndDecChangeMemoryByOne := by
  unfold Obligations.IncAndDecChangeMemoryByOne
  simp only [← add_one_eq_ofNat, ← sub_one_eq_ofInt, ← Status.setNZ_eq_nz]
  refine ⟨?inc, ?dec, onAddress_of_does rfl ?_, onAddress_of_does rfl ?_⟩
  case inc | dec => unfold EncodedBy; decide
  all_goals exact fun _ _ _ => ⟨rfl, rfl⟩

/-- Settles O35: the handlers step an index register. -/
theorem indexRegistersStepByOne : Obligations.IndexRegistersStepByOne := by
  unfold Obligations.IndexRegistersStepByOne
  simp only [← add_one_eq_ofNat, ← sub_one_eq_ofInt, ← Status.setNZ_eq_nz]
  refine ⟨?inx, ?iny, ?dex, ?dey, onImplied_of_does rfl ?_, onImplied_of_does rfl ?_, onImplied_of_does rfl ?_,
    onImplied_of_does rfl ?_⟩
  case inx | iny | dex | dey => unfold EncodedBy; decide
  all_goals exact fun _ _ => ⟨rfl, rfl⟩

/-- Settles O36: the four handlers are one, on four cores. -/
theorem shiftsAndRotatesMoveOneBit : Obligations.ShiftsAndRotatesMoveOneBit := by
  refine ⟨?asl, ?lsr, ?rol, ?ror, shifts_of_core rfl aslCore_eq, shifts_of_core rfl lsrCore_eq,
    shifts_of_core rfl rolCore_eq, shifts_of_core rfl rorCore_eq⟩
  case asl | lsr | rol | ror => unfold EncodedBy; decide

end Sys2Proof.Proofs
end

section
/-! SUPPORT. Branches, JMP and NOP by value, and which instructions can set V (43_control_stack_flags.md R220-R229,
R245; 10_state.md R32). -/

namespace Sys2Proof.Machine

open Sys2Proof.Claims

/-- Every branch has the base count 2 (43_control_stack_flags.md R220). -/
theorem baseCycles_of_branch {i : Instr} {condition : Status → Bool} (h : shapeOf i.mnemonic = .branch condition) :
    i.baseCycles = 2 := by
  cases i
  case bccRel | bcsRel | beqRel | bneRel | bmiRel | bplRel | bvcRel | bvsRel => rfl
  all_goals cases h

/-- A mnemonic whose shape is a branch is that branch, by value. -/
theorem branches_of_shape {m : Mnemonic} {condition : Status → Bool} (hm : shapeOf m = .branch condition) :
    Branches m condition := by
  rintro i s rfl hs
  obtain ⟨r, ho, hrun⟩ := exec_of_branch s condition hm
  rw [baseCycles_of_branch hm] at hrun
  refine ⟨r, ho, fun hc => ?_, fun hc => ?_⟩
  · rw [hrun, runBranch_notTaken hc]
    exact State.complete_running (s.advance 2) 2 hs
  · have hcycles (target after : Addr) : 2 + 1 + (highByte target != highByte after).toNat =
        if target.toNat / 256 = after.toNat / 256 then 3 else 4 := by
      rw [Nat.add_assoc, takenCycles_eq, apply_ite (2 + ·)]
    rw [hrun, runBranch_taken hc, branchTarget_eq, hcycles]
    exact State.complete_running { s with pc := s.pc + 2#16 + sext16 r } _ hs

/-- NOP only advances, and asks for the cycle of a crossing (43_control_stack_flags.md R245). -/
theorem handleNop_does : Does handleNop true id := fun _ _ => ⟨rfl, rfl⟩

/-- NOP in each of its modes ends after the advance of PC (44_undocumented.md R292). -/
theorem exec_of_nop {i : Instr} (s : State) (h : shapeOf i.mnemonic = .nop) :
    exec i s = (handleNop (s.advance i.operand.length)).1.complete
      (i.baseCycles + bonus (crossed i.operand s) (handleNop (s.advance i.operand.length)).2) := by
  have e := exec_eq i s
  rw [h] at e
  cases ho : i.operand <;> rw [ho] at e <;>
    simp only [Shape.run, runRead, runAddress, State.resolve_advance, Option.some.injEq, reduceCtorEq] at e
  all_goals exact e.symm

/-- JMP in both its modes ends at the address it resolves to; neither mode costs it a crossing
(43_control_stack_flags.md R229). -/
theorem exec_of_jmp {i : Instr} (h : i.mnemonic = .jmp) (s : State) :
    ∃ place, i.operand = .mem place ∧ exec i s = { s with pc := (s.resolve place).addr }.complete i.baseCycles := by
  obtain ⟨place, ho, hrun⟩ := exec_of_address (i := i) s handleJmp (by rw [h]; rfl)
  rw [runAddress, State.resolve_advance, handleJmp, bonus, Bool.and_false] at hrun
  exact ⟨place, ho, hrun⟩

/-- Of the mnemonics that write V, only CLV cannot set it (43_control_stack_flags.md R241). -/
theorem Shape.Leaves.setsV {s u : State} {m : Mnemonic} {o : Operand} (h : Shape.Leaves s (shapeOf m) o u)
    (hs : s.p.v = false) (hu : u.p.v = true) : m ∈ [.adc, .sbc, .bit, .plp, .rti, .rra, .isc, .arr] := by
  have hwrites : m ∈ writesV := by
    by_contra hm
    rw [h.p_v_eq hm, hs] at hu
    cases hu
  have hclv : m ≠ .clv := by
    rintro rfl
    cases h
    cases hu
  have hsetters : ∀ w ∈ writesV, w ≠ .clv → w ∈ [.adc, .sbc, .bit, .plp, .rti, .rra, .isc, .arr] := by decide
  exact hsetters m hwrites hclv

end Sys2Proof.Machine
end

section
/-! SUPPORT. The stack by value (43_control_stack_flags.md R230-R237): what JSR, RTS, BRK and RTI leave, halted or not,
and that bytes stored downward from SP are read back by the pops. -/

namespace Sys2Proof.Machine

/-- The two pushes of an address, as stores in the stack page (43_control_stack_flags.md R230). -/
theorem State.pushAddr_eq (s : State) (r : Addr) :
    s.pushAddr r = { (s.write (stackAddr s.sp) (highByte r)).write (stackAddr (s.sp - 1#8)) (lowByte r) with
      sp := s.sp - 2#8 } := by
  have hsp : s.sp - 2#8 = s.sp - 1#8 - 1#8 := (sub_sub s.sp 1#8 1#8).symm
  rw [hsp]
  rfl

/-- The trap, as three stores in the stack page (43_control_stack_flags.md R232). -/
theorem State.takeBreak_eq (s : State) :
    s.takeBreak = { ((s.write (stackAddr s.sp) (highByte (s.pc + 1#16))).write (stackAddr (s.sp - 1#8))
        (lowByte (s.pc + 1#16))).write (stackAddr (s.sp - 2#8)) s.p.pushed with
      sp := s.sp - 3#8, p := { s.p with i := true }, pc := s.vector breakVector } := by
  have hsp : s.sp - 3#8 = s.sp - 2#8 - 1#8 := (sub_sub s.sp 2#8 1#8).symm
  rw [hsp, State.takeBreak, State.vector_break_push, State.vector_break_pushAddr, State.pushAddr_eq]
  rfl

/-- The return from the trap, as three reads of the stack page (43_control_stack_flags.md R233). -/
theorem State.returnFromBreak_eq (s : State) :
    s.returnFromBreak = { s with
      sp := s.sp + 3#8
      p := Status.pulled (s.read (stackAddr (s.sp + 1#8)))
      pc := assemble (s.read (stackAddr (s.sp + 3#8))) (s.read (stackAddr (s.sp + 2#8))) } := by
  have h2 : s.sp + 2#8 = s.sp + 1#8 + 1#8 := (add_assoc s.sp 1#8 1#8).symm
  have h3 : s.sp + 3#8 = s.sp + 1#8 + 1#8 + 1#8 := by rw [← h2]; exact (add_assoc s.sp 2#8 1#8).symm
  rw [h3, h2]
  rfl

/-- JSR pushes the address of its own last byte, which is PC + 2 (43_control_stack_flags.md R230). -/
theorem exec_jsr (a : Addr) (s : State) :
    exec (.jsrAbs a) s =
      { (s.write (stackAddr s.sp) (highByte (s.pc + 2#16))).write (stackAddr (s.sp - 1#8)) (lowByte (s.pc + 2#16)) with
        sp := s.sp - 2#8, pc := a }.complete 6 := by
  have hlast : (s.advance 3).pc - 1#16 = s.pc + 2#16 := add_sub_assoc s.pc 3#16 1#16
  show { (s.advance 3).pushAddr ((s.advance 3).pc - 1#16) with pc := a }.complete 6 = _
  rw [hlast, State.pushAddr_eq]
  rfl

/-- RTS goes past the address it pops (43_control_stack_flags.md R231). -/
theorem exec_rts (s : State) :
    exec .rts s = { s with
      sp := s.sp + 2#8
      pc := assemble (s.read (stackAddr (s.sp + 2#8))) (s.read (stackAddr (s.sp + 1#8))) + 1#16 }.complete 6 := by
  have h2 : s.sp + 2#8 = s.sp + 1#8 + 1#8 := (add_assoc s.sp 1#8 1#8).symm
  rw [h2]
  rfl

/-- BRK pushes PC + 2, past the padding byte, and the status (43_control_stack_flags.md R232). -/
theorem exec_brk (s : State) :
    exec .brk s = { ((s.write (stackAddr s.sp) (highByte (s.pc + 2#16))).write (stackAddr (s.sp - 1#8))
        (lowByte (s.pc + 2#16))).write (stackAddr (s.sp - 2#8)) s.p.pushed with
      sp := s.sp - 3#8, p := { s.p with i := true }, pc := s.vector breakVector }.complete 7 := by
  have hskip : (s.advance 1).pc + 1#16 = s.pc + 2#16 := add_assoc s.pc 1#16 1#16
  show (s.advance 1).takeBreak.complete 7 = _
  rw [State.takeBreak_eq, hskip]
  rfl

/-- RTI goes to the address it pops, with no adjustment (43_control_stack_flags.md R233). -/
theorem exec_rti (s : State) :
    exec .rti s = { s with
      sp := s.sp + 3#8
      p := Status.pulled (s.read (stackAddr (s.sp + 1#8)))
      pc := assemble (s.read (stackAddr (s.sp + 3#8))) (s.read (stackAddr (s.sp + 2#8))) }.complete 6 := by
  show (s.advance 1).returnFromBreak.complete 6 = _
  rw [State.returnFromBreak_eq]
  rfl

/-- Without a cartridge the vector at 0xFFFE is 0x0000 (20_memory.md R55). -/
theorem State.vector_break_empty (s : State) (hcart : s.cart = none) : s.vector breakVector = 0x0000#16 := by
  have hhigh : s.read 0xFFFF#16 = 0#8 := s.read_empty_window (by decide) hcart
  have hlow : s.read 0xFFFE#16 = 0#8 := s.read_empty_window (by decide) hcart
  exact congrArg₂ assemble hhigh hlow

/-- The byte pushed is the one that the next pop returns. -/
@[simp] theorem State.top_push (s : State) (v : Byte) : (s.push v).top = v := by
  obtain ⟨-, -, -, htop, -⟩ := Proofs.pushAndPopAreInverse s v
  exact htop

/-- Two bytes stored downward from SP stand above the SP they leave, also when SP wraps. -/
theorem State.read_two_down (s : State) (sp first second : Byte) :
    let saved := (s.write (stackAddr sp) first).write (stackAddr (sp - 1#8)) second
    saved.read (stackAddr (sp - 2#8 + 2#8)) = first ∧ saved.read (stackAddr (sp - 2#8 + 1#8)) = second := by
  intro saved
  have htop : sp - 2#8 + 2#8 = sp := by bv_omega
  have hnext : sp - 2#8 + 1#8 = sp - 1#8 := by bv_omega
  have hne : sp ≠ sp - 1#8 := by bv_omega
  rw [htop, hnext]
  simp only [saved, State.read_stack_write, hne, if_true, if_false, and_self]

/-- Three bytes stored downward from SP stand above the SP they leave, also when SP wraps. -/
theorem State.read_three_down (s : State) (sp first second third : Byte) :
    let saved := ((s.write (stackAddr sp) first).write (stackAddr (sp - 1#8)) second).write (stackAddr (sp - 2#8)) third
    saved.read (stackAddr (sp - 3#8 + 3#8)) = first ∧ saved.read (stackAddr (sp - 3#8 + 2#8)) = second ∧
      saved.read (stackAddr (sp - 3#8 + 1#8)) = third := by
  intro saved
  have htop : sp - 3#8 + 3#8 = sp := by bv_omega
  have hnext : sp - 3#8 + 2#8 = sp - 1#8 := by bv_omega
  have hlast : sp - 3#8 + 1#8 = sp - 2#8 := by bv_omega
  have hne : sp ≠ sp - 1#8 ∧ sp ≠ sp - 2#8 ∧ sp - 1#8 ≠ sp - 2#8 := by bv_omega
  rw [htop, hnext, hlast]
  simp only [saved, State.read_stack_write, hne, if_true, if_false, and_self]

/-- A status with U = 1 and B = 0 comes back from its pushed copy (10_state.md R34). -/
theorem pulled_pushed_of_statusOk {s : State} (h : s.StatusOk) : Status.pulled s.p.pushed = s.p := by
  obtain ⟨hu, hb⟩ := h
  rw [Status.pulled_pushed, ← hu, ← hb]

end Sys2Proof.Machine
end

section
/-! SUPPORT. The statements of 43_control_stack_flags.md: branches, jumps and subroutines, the trap and its return, the
stack and flag instructions, NOP, and the round trips. -/

namespace Sys2Proof.Proofs

open Sys2Proof.Machine Sys2Proof.Claims

/-- Settles O37: the eight branches are one, on eight conditions. -/
theorem branchesAddTheOffset : Obligations.BranchesAddTheOffset := by
  refine ⟨?bcc, ?bcs, ?beq, ?bne, ?bmi, ?bpl, ?bvc, ?bvs, branches_of_shape rfl, branches_of_shape rfl,
    branches_of_shape rfl, branches_of_shape rfl, branches_of_shape rfl, branches_of_shape rfl, branches_of_shape rfl,
    branches_of_shape rfl⟩
  case bcc | bcs | beq | bne | bmi | bpl | bvc | bvs => unfold EncodedBy; decide

/-- Settles O38: the handler of JMP takes the address that the mode resolves to. -/
theorem jmpGoesToTheResolvedAddress : Obligations.JmpGoesToTheResolvedAddress := by
  refine ⟨?opcodes, ?costs, fun i s hi hs => ?_⟩
  case opcodes => unfold EncodedBy; decide
  case costs => unfold Costs; decide
  obtain ⟨place, ho, hrun⟩ := exec_of_jmp hi s
  refine ⟨place, ho, hrun.trans ?_⟩
  exact State.complete_running { s with pc := (s.resolve place).addr } _ hs

/-- Settles O39: JSR pushes an address. -/
theorem jsrPushesTheReturnAddress : Obligations.JsrPushesTheReturnAddress := by
  refine ⟨?opcodes, fun s a hs => (exec_jsr a s).trans (State.complete_running _ 6 hs)⟩
  unfold EncodedBy
  decide

/-- Settles O40: RTS pops an address. -/
theorem rtsPopsTheReturnAddress : Obligations.RtsPopsTheReturnAddress := by
  refine ⟨?opcodes, fun s hs => (exec_rts s).trans (State.complete_running _ 6 hs)⟩
  unfold EncodedBy
  decide

/-- Settles O41: the vector is read after the pushes, which cannot change it; without a cartridge it is 0. -/
theorem brkTakesTheTrap : Obligations.BrkTakesTheTrap := by
  refine ⟨?opcodes, fun s hs => (exec_brk s).trans (State.complete_running _ 7 hs), fun s t hcart h => ?_⟩
  case opcodes => unfold EncodedBy; decide
  obtain ⟨hpc, -, -⟩ := exec_brk_next h
  exact hpc.trans (s.vector_break_empty hcart)

/-- Settles O42: RTI pops the status, then an address. -/
theorem rtiRestoresStatusAndPc : Obligations.RtiRestoresStatusAndPc := by
  refine ⟨?opcodes, fun s hs => ?_⟩
  case opcodes => unfold EncodedBy; decide
  rw [exec_rti, Status.pulled_eq]
  exact State.complete_running _ 6 hs

/-- Settles O43: both handlers push one byte. -/
theorem pushInstructionsStoreOnTheStack : Obligations.PushInstructionsStoreOnTheStack := by
  refine ⟨?pha, ?php, ?costs, onImplied_of_does rfl ?_, onImplied_of_does rfl ?_⟩
  case pha | php => unfold EncodedBy; decide
  case costs => unfold Costs; decide
  all_goals exact fun _ _ => ⟨rfl, rfl⟩

/-- Settles O44: both handlers pop one byte; PLP forces two of its bits. -/
theorem pullInstructionsLoadFromTheStack : Obligations.PullInstructionsLoadFromTheStack := by
  unfold Obligations.PullInstructionsLoadFromTheStack
  simp only [← Status.setNZ_eq_nz, ← Status.pulled_eq]
  refine ⟨?pla, ?plp, ?costs, onImplied_of_does rfl ?_, onImplied_of_does rfl ?_⟩
  case pla | plp => unfold EncodedBy; decide
  case costs => unfold Costs; decide
  all_goals exact fun _ _ => ⟨rfl, rfl⟩

/-- Settles O45: each handler writes one flag; of the mnemonics that write V only CLV cannot set it. -/
theorem flagInstructionsChangeOneFlag : Obligations.FlagInstructionsChangeOneFlag := by
  refine ⟨?clc, ?cld, ?cli, ?clv, ?sec, ?sed, ?sei, ?costs, onImplied_of_does rfl ?_, onImplied_of_does rfl ?_,
    onImplied_of_does rfl ?_, onImplied_of_does rfl ?_, onImplied_of_does rfl ?_, onImplied_of_does rfl ?_,
    onImplied_of_does rfl ?_, fun i s t h hs ht => ?overflow⟩
  case clc | cld | cli | clv | sec | sed | sei => unfold EncodedBy; decide
  case costs => unfold Costs; decide
  case overflow =>
    obtain ⟨u, _, hu, rfl⟩ := exec_next h
    exact hu.setsV hs ht
  all_goals exact fun _ _ => ⟨rfl, rfl⟩

/-- Settles O46: NOP does nothing, in every mode. -/
theorem nopsOnlyAdvance : Obligations.NopsOnlyAdvance := by
  refine ⟨?opcodes, ?costs, fun i s hi hs => ?_⟩
  case opcodes => unfold EncodedBy; decide
  case costs => unfold Costs; decide
  exact (exec_of_nop s (by rw [hi]; rfl)).trans (handleNop_does.complete_eq rfl hs)

/-- Settles O56: RTS reads the two bytes where JSR stored them, and adds 1 to the address of JSR's last byte. -/
theorem jsrThenRtsReturns : Obligations.JsrThenRtsReturns := by
  intro s a
  refine ⟨_, _, exec_jsr a s, rfl, exec_rts _, ?pc, sub_add_cancel s.sp 2#8, rfl, rfl, rfl, rfl⟩
  obtain ⟨hhigh, hlow⟩ := s.read_two_down s.sp (highByte (s.pc + 2#16)) (lowByte (s.pc + 2#16))
  refine (congrArg (· + 1#16) (congrArg₂ assemble hhigh hlow)).trans ?_
  rw [assemble_high_low]
  exact add_assoc s.pc 2#16 1#16

/-- Settles O57: RTI reads the three bytes where BRK stored them. -/
theorem brkThenRtiReturns : Obligations.BrkThenRtiReturns := by
  intro s hs
  refine ⟨_, _, exec_brk s, exec_rti _, ?pc, sub_add_cancel s.sp 3#8, ?p, rfl, rfl, rfl⟩
  all_goals
    obtain ⟨hhigh, hlow, hstatus⟩ :=
      s.read_three_down s.sp (highByte (s.pc + 2#16)) (lowByte (s.pc + 2#16)) s.p.pushed
  case pc => exact (congrArg₂ assemble hhigh hlow).trans (assemble_high_low _)
  case p => exact (congrArg Status.pulled hstatus).trans (pulled_pushed_of_statusOk hs)

/-- Settles O58: each pull reads the byte that the push stored. -/
theorem pushThenPullRestores : Obligations.PushThenPullRestores := by
  refine ⟨fun s hs => ⟨_, _, rfl, rfl, ?_, sub_add_cancel s.sp 1#8⟩,
    fun s => ⟨_, _, rfl, rfl, ?_, sub_add_cancel s.sp 1#8, ?_⟩⟩
  · show Status.pulled ((s.advance 1).push s.p.pushed).top = s.p
    rw [State.top_push, pulled_pushed_of_statusOk hs]
  · exact (s.advance 1).top_push s.a
  · show s.p.setNZ ((s.advance 1).push s.a).top = nz s.p s.a
    rw [State.top_push, Status.setNZ_eq_nz]

end Sys2Proof.Proofs
end

section
/-! SUPPORT. The undocumented instructions by value (44_undocumented.md R271-R293): each combined handler is a documented
handler after a change of memory, and what the stores of R285 do in an indexed mode. -/

namespace Sys2Proof.Machine

open Sys2Proof.Claims

/-- Only the row of JAM has its mnemonic (44_undocumented.md R293). -/
theorem exists_eq_jam {i : Instr} (h : i.mnemonic = .jam) : ∃ code, i = .jam code := by
  cases i
  case jam code => exact ⟨code, rfl⟩
  all_goals cases h

/-- JAM sets `halted` and goes past its one byte; the base count 0 and the outcome Halted are its report
(44_undocumented.md R293). -/
theorem exec_jam (code : JamOpcode) (s : State) :
    exec (.jam code) s = .next { s with halted := true, pc := s.pc + 1#16, report := some ⟨0, .halted⟩ } :=
  rfl

/-- A state that is halted and has reported so is not changed by a step (60_exceptions.md R321). -/
theorem step_of_halted {s : State} (hs : s.halted = true) (hr : s.report = some ⟨0, .halted⟩) : step s = .next s := by
  rw [step, if_pos hs, State.haltedStep, ← hr]

/-- RRA is ADC of the byte that the rotate stored, with the carry that it wrote (44_undocumented.md R274). -/
theorem handleRra_eq (a : Addr) (s : State) :
    let r := rorCore (s.read a) s.p
    handleRra a s = (added r.1 ({ s with p := r.2 }.write a r.1), false) := by
  intro r
  exact congrArg (fun done => (done.1, false)) (handleAdc_eq r.1 ({ s with p := r.2 }.write a r.1))

/-- DCP is CMP with the byte that it stored (44_undocumented.md R275). -/
theorem handleDcp_eq (a : Addr) (s : State) :
    let r := s.read a - 1#8
    handleDcp a s = (compared s.a r (s.write a r), false) := by
  intro r
  rw [compared, ← compareCore_eq]
  rfl

/-- ISC is SBC of the byte that it stored, with the old carry (44_undocumented.md R276). -/
theorem handleIsc_eq (a : Addr) (s : State) :
    let r := s.read a + 1#8
    handleIsc a s = (subtracted r (s.write a r), false) := by
  intro r
  exact congrArg (fun done => (done.1, false)) (handleSbc_eq r (s.write a r))

/-- A difference of bytes is that of their values, modulo 256. -/
theorem sub_eq_ofInt (a b : Byte) : a - b = BitVec.ofInt 8 ((a.toNat : Int) - b.toNat) := by
  apply BitVec.eq_of_toNat_eq
  rw [BitVec.toNat_sub, BitVec.toNat_ofInt]
  omega

/-- What ANE leaves in A (44_undocumented.md R283). -/
theorem exec_aneImm_a {m : Byte} {s t : State} (h : exec (.aneImm m) s = .next t) :
    t.a = (s.a ||| Config.aneConst) &&& s.x &&& m := by
  obtain ⟨u, _, hu, rfl⟩ := exec_next h
  cases hu
  rfl

/-- What LXA leaves in A and X (44_undocumented.md R284). -/
theorem exec_lxaImm_ax {m : Byte} {s t : State} (h : exec (.lxaImm m) s = .next t) :
    t.a = (s.a ||| Config.lxaConst) &&& m ∧ t.x = (s.a ||| Config.lxaConst) &&& m := by
  obtain ⟨u, _, hu, rfl⟩ := exec_next h
  cases hu
  exact ⟨rfl, rfl⟩

/-- In a mode that adds an index to a base, the address minus the index is the base, so `H` is the base's high byte and
the store of R285 replaces the high byte exactly when the resolver signals a crossing. -/
theorem State.highAndStore_indexed (s : State) (index v : Byte) (base : Addr) :
    let w := v &&& (highByte base + 1#8)
    let at_ := indexed base index
    s.highAndStore index v at_.addr =
      s.write (if at_.crossed then assemble w (lowByte at_.addr) else at_.addr) w := by
  intro w at_
  have hbase : baseHigh index at_.addr = highByte base := congrArg highByte (add_sub_cancel_right base (zext16 index))
  rw [State.highAndStore, highAndAddr, highAndByte, hbase]
  rfl

/-- The place is in an indexed mode, and this is the index it adds to its base address. -/
def AddsIndex (index : State → Byte) (place : Place) : Prop :=
  ∀ s : State, ∃ base, baseAddr place s = some base ∧ s.resolve place = indexed base (index s)

/-- The index that the modes of SHA, SHX, SHY and TAS add to a base address (44_undocumented.md R286-R289). -/
def highAndIndex : Mnemonic → Option (State → Byte)
  | .sha | .shx | .tas => some State.y
  | .shy => some State.x
  | _ => none

/-- These mnemonics have no mode but the indexed ones that add this index (30_encoding.md R84). -/
theorem addsIndex_of_highAndIndex {i : Instr} {place : Place} {index : State → Byte}
    (hi : highAndIndex i.mnemonic = some index) (ho : i.operand = .mem place) : AddsIndex index place := by
  cases i
  case shaAby | shaIzy | shxAby | shyAbx | tasAby =>
    cases hi
    cases ho
    exact fun _ => ⟨_, rfl, rfl⟩
  all_goals cases hi

/-- A handler that stores by R285 with the index that all modes of its mnemonic add. -/
theorem highAndStores_of_does {m : Mnemonic} {handle : Addr → State → Handled} {index : State → Byte}
    {before : State → State} {v : State → Byte} (hm : shapeOf m = .address handle)
    (hindex : highAndIndex m = some index)
    (h : ∀ a, Does (handle a) false (fun s => (before s).highAndStore (index s) (v s) a)) :
    HighAndStores m before v := by
  intro i s hi hs
  obtain ⟨place, ho, hrun⟩ := onAddress_of_does hm h i s hi hs
  obtain ⟨base, hbase, hresolve⟩ := addsIndex_of_highAndIndex (hi ▸ hindex) ho s
  refine ⟨place, base, ho, hbase, ?_⟩
  rw [hrun, hresolve]
  exact congrArg (completed i false s) ((before s).highAndStore_indexed (index s) (v s) base)

end Sys2Proof.Machine
end

section
/-! SUPPORT. The statements of 44_undocumented.md: JAM, the instructions that change memory and then compute, and those
of several registers, with the OPEN constants, and with the base page. -/

namespace Sys2Proof.Proofs

open Sys2Proof.Machine Sys2Proof.Claims

/-- Settles O15: the state that JAM leaves is halted and has reported so, and a step keeps such a state. -/
theorem jamHaltsAndChangesNothingElse : Obligations.JamHaltsAndChangesNothingElse := by
  refine ⟨?opcodes, exec_jam, fun i s t hi h => ?later⟩
  case opcodes => unfold EncodedBy; decide
  case later =>
    obtain ⟨code, rfl⟩ := exists_eq_jam hi
    cases h
    exact step_of_halted rfl rfl

/-- Settles O47: the handlers shift memory by a core and combine A with the byte stored; Z and N of the shift are
written again. -/
theorem sloRlaSreShiftThenCombine : Obligations.SloRlaSreShiftThenCombine := by
  unfold Obligations.SloRlaSreShiftThenCombine
  simp only [← shiftLeft_one_eq_ofNat, ← rotateLeft_eq_ofNat, ← ushiftRight_one_eq_ofNat, ← getLsbD_seven_eq_decide,
    ← getLsbD_zero_eq_decide, ← Status.setNZ_eq_nz]
  refine ⟨?slo, ?rla, ?sre, onAddress_of_does rfl ?_, onAddress_of_does rfl ?_, onAddress_of_does rfl ?_⟩
  case slo | rla | sre => unfold EncodedBy; decide
  all_goals exact fun _ _ _ => ⟨rfl, rfl⟩

/-- Settles O48: the handlers are those of ADC, CMP and SBC after a change of memory. -/
theorem rraDcpIscChangeThenCompute : Obligations.RraDcpIscChangeThenCompute := by
  unfold Obligations.RraDcpIscChangeThenCompute
  simp only [← rotateRight_eq_ofNat, ← getLsbD_zero_eq_decide, ← sub_one_eq_ofInt, ← add_one_eq_ofNat]
  refine ⟨?rra, ?dcp, ?isc, onAddress_of_does rfl fun a s pc => ⟨handleRra_eq a { s with pc := pc }, rfl⟩,
    onAddress_of_does rfl fun a s pc => ⟨handleDcp_eq a { s with pc := pc }, rfl⟩,
    onAddress_of_does rfl fun a s pc => ⟨handleIsc_eq a { s with pc := pc }, rfl⟩⟩
  case rra | dcp | isc => unfold EncodedBy; decide

/-- Settles O49: LAX and LAS take the byte of `fetch()`, SAX the resolved address. -/
theorem laxSaxLasMoveSeveralRegisters : Obligations.LaxSaxLasMoveSeveralRegisters := by
  unfold Obligations.LaxSaxLasMoveSeveralRegisters
  simp only [← Status.setNZ_eq_nz]
  refine ⟨?lax, ?sax, ?las, ?costs, onByte_of_does rfl ?_, onAddress_of_does rfl ?_, onByte_of_does rfl ?_⟩
  case lax | sax | las => unfold EncodedBy; decide
  case costs => unfold Costs; decide
  all_goals exact fun _ _ _ => ⟨rfl, rfl⟩

/-- Settles O50: the four cores by value. -/
theorem ancAlrArrSbxOnTheAccumulator : Obligations.AncAlrArrSbxOnTheAccumulator := by
  unfold Obligations.AncAlrArrSbxOnTheAccumulator
  simp only [← ushiftRight_one_eq_ofNat, ← rotateRight_eq_ofNat, ← getLsbD_seven_eq_decide, ← getLsbD_zero_eq_decide,
    ← sub_eq_ofInt, ← Status.setNZ_eq_nz]
  refine ⟨?anc, ?alr, ?arr, ?sbx, onByte_of_does rfl ?_, onByte_of_does rfl ?_, onByte_of_does rfl ?_,
    onByte_of_does rfl ?_⟩
  case anc | alr | arr | sbx => unfold EncodedBy; decide
  all_goals exact fun _ _ _ => ⟨rfl, rfl⟩

/-- Settles O51: ORing the constant into 0xFF changes nothing, and ANDing with 0 leaves nothing of it. -/
theorem aneLxaUseTheOpenConstants : Obligations.AneLxaUseTheOpenConstants := by
  unfold Obligations.AneLxaUseTheOpenConstants
  simp only [← Status.setNZ_eq_nz]
  have hfull (const m : Byte) : (0xFF#8 ||| const) &&& m = m := by
    have hones : 0xFF#8 = BitVec.allOnes 8 := rfl
    rw [hones, BitVec.allOnes_or, BitVec.allOnes_and]
  refine ⟨?ane, ?lxa, onByte_of_does rfl fun _ _ _ => ⟨rfl, rfl⟩, onByte_of_does rfl fun _ _ _ => ⟨rfl, rfl⟩,
    fun m s t h => ?aneResult, fun m s t h => ?lxaResult⟩
  case ane | lxa => unfold EncodedBy; decide
  case aneResult =>
    rw [exec_aneImm_a h, BitVec.and_assoc]
    exact ⟨fun ha => by rw [ha, hfull], fun hxm => by rw [hxm, BitVec.and_zero]⟩
  case lxaResult =>
    obtain ⟨hta, htx⟩ := exec_lxaImm_ax h
    rw [hta, htx, and_self, and_self]
    exact ⟨fun ha => by rw [ha, hfull], fun hm => by rw [hm, BitVec.and_zero]⟩

/-- Settles O52: the four handlers store by R285, each with the index that its modes add. -/
theorem highAndStoresMaskWithTheBasePage : Obligations.HighAndStoresMaskWithTheBasePage := by
  refine ⟨?sha, ?shx, ?shy, ?tas, ?costs,
    highAndStores_of_does rfl rfl ?_, highAndStores_of_does rfl rfl ?_, highAndStores_of_does rfl rfl ?_,
    highAndStores_of_does rfl rfl ?_⟩
  case sha | shx | shy | tas => unfold EncodedBy; decide
  case costs => unfold Costs; decide
  all_goals exact fun _ _ _ => ⟨rfl, rfl⟩

end Sys2Proof.Proofs
end

section
/-! SUPPORT. The halted step, and what clears the halted condition (60_exceptions.md R321). -/

namespace Sys2Proof.Machine

/-- The halted branch of a step: neither the bytes at PC nor the meaning of an instruction is reached. -/
theorem step_eq_haltedStep {s : State} (hs : s.halted = true) : step s = s.haltedStep :=
  if_pos hs

@[simp] theorem State.launch_halted (cart : Option Cartridge) (a x y : Byte) (ram : Memory) :
    (State.launch cart a x y ram).halted = false := rfl

/-- Reset is a launch that keeps RAM and the cartridge, so it clears `halted` as the launch does. -/
@[simp] theorem State.hostReset_halted (s : State) (a x y : Byte) : (s.hostReset a x y).halted = false :=
  State.launch_halted s.cart a x y s.ram

end Sys2Proof.Machine
end

section
/-! SUPPORT. The statement of 60_exceptions.md. -/

namespace Sys2Proof.Proofs

open Sys2Proof.Machine

/-- Settles O6: a step from a halted state is the halted step, which writes the report alone; reset is a launch. -/
theorem haltedStepChangesNothing : Obligations.HaltedStepChangesNothing :=
  ⟨fun _ hs => step_eq_haltedStep hs,
    fun s a x y => ⟨s.hostReset_halted a x y, State.launch_halted s.cart a x y s.ram⟩⟩

end Sys2Proof.Proofs
end

section
/-! SUPPORT. The launch, the host's reset and the table of base counts (70_reset_and_hazards.md). -/

namespace Sys2Proof.Machine

open Sys2Proof.Claims (classCycles)

/-- Without a cartridge a vector in the cartridge window is 0x0000 (20_memory.md R55). -/
theorem State.vector_empty_window (s : State) {a : Addr} (hlow : 0x8000 ≤ a.toNat) (hhigh : 0x8000 ≤ (a + 1#16).toNat)
    (hcart : s.cart = none) : s.vector a = 0x0000#16 :=
  congrArg₂ assemble (s.read_empty_window hhigh hcart) (s.read_empty_window hlow hcart)

/-- The launch reads PC through its own bus, from the reset vector (70_reset_and_hazards.md R350). -/
theorem State.launch_pc (cart : Option Cartridge) (a x y : Byte) (ram : Memory) :
    (State.launch cart a x y ram).pc = (State.launch cart a x y ram).vector resetVector := rfl

/-- The reset vector, byte by byte (20_memory.md R63). -/
theorem State.vector_reset (s : State) :
    s.vector resetVector = assemble (s.read 0xFFFD#16) (s.read 0xFFFC#16) := rfl

@[simp] theorem Status.launch_toByte : Status.launch.toByte = 0x24#8 := rfl

/-- A step from a halted state is the halted step, which does not write `halted` (60_exceptions.md R321). -/
theorem step_keeps_halted {s t : State} (hs : s.halted = true) (h : step s = .next t) : t.halted = true := by
  rw [step_eq_haltedStep hs] at h
  cases h
  exact hs

/-- Every row of the instruction table has the base count of its class, whatever the operand holds
(70_reset_and_hazards.md R358). -/
theorem Instr.baseCycles_eq_classCycles (i : Instr) : some i.baseCycles = classCycles i.mnemonic i.operand.mode := by
  cases i <;> rfl

end Sys2Proof.Machine
end

section
/-! SUPPORT. The statements of 70_reset_and_hazards.md. -/

namespace Sys2Proof.Proofs

open Sys2Proof.Machine

/-- Settles O10: PC is the reset vector, read in the launch state itself; the rest is written out by the launch. -/
theorem launchState : Obligations.LaunchState := by
  intro cart a x y ram
  have hpc := State.launch_pc cart a x y ram
  have hempty (hcart : cart = none) : (State.launch cart a x y ram).pc = 0x0000#16 :=
    hpc.trans (State.vector_empty_window _ (by decide) (by decide) hcart)
  exact ⟨hpc.trans (State.vector_reset _), rfl, Status.launch_toByte, rfl, rfl, rfl, State.launch_halted cart a x y ram,
    rfl, rfl, rfl, hempty⟩

/-- Settles O11: reset is a launch from the state's own RAM and cartridge, and a halted step keeps `halted`. -/
theorem hostResetKeepsRamAndCartridge : Obligations.HostResetKeepsRamAndCartridge :=
  ⟨fun s a x y => ⟨rfl, rfl, rfl, rfl, rfl, rfl, s.hostReset_halted a x y, rfl, rfl⟩, fun _ _ => step_keeps_halted⟩

/-- Settles O25: a descriptor is the row of the instruction that its opcode selects. -/
theorem baseCyclesByClass : Obligations.BaseCyclesByClass :=
  fun op => Instr.baseCycles_eq_classCycles (decodeOpcode op 0 0)

end Sys2Proof.Proofs
end
